-- ==== Sys2Proof/Word.lean ====
section
/-! DEFINITION. The words of the block: 8-bit payloads and output words, 4-bit nibbles, 16-bit frame words
(spec/00_scope.md R9, R11; spec/30_encoding.md R80). -/

namespace Sys2Proof

/-- A payload, an output word or a character: 8 bits (R9 `W_OUT`, `W_PAYLOAD`). -/
abbrev Byte := BitVec 8

/-- Half of a payload: 4 bits (R14). -/
abbrev Nibble := BitVec 4

/-- A command word or a data word of a frame: 16 bits (R80). -/
abbrev CmdWord := BitVec 16

/-- The mode of a payload: RS low or RS high (R15). -/
inductive Mode where
  | command
  | data
  deriving DecidableEq, Repr, Inhabited

end Sys2Proof
end

