-- ==== Sys2Proof/Syntax.lean ====
section
/-! DEFINITION. The instructions: one constructor for each row of spec/opcode_table.json. The ten CW16 rows are the
operations of the block (spec/00_scope.md R4, spec/30_encoding.md R82); the eight LCD8 rows are the command bytes it emits
(R100, R101); the two NIB4 rows its bring-up nibbles (R102). -/

namespace Sys2Proof

/-- The ten options of INIT in the source's order (spec/30_encoding.md R84; letters of spec/41_init_sequencer.md R152). -/
structure InitOptions where
  dataWidth : Bool
  lineCount : Bool
  font : Bool
  displayOn : Bool
  cursorOn : Bool
  blinkOn : Bool
  autoIncrement : Bool
  autoShift : Bool
  moveMode : Bool
  moveDirection : Bool
  deriving DecidableEq, Repr

/-- The instructions. -/
inductive Instr where
  /-- SENDBYTE (R83, R127). -/
  | sendbyte (payload : Byte) (mode : Mode)
  /-- INIT (R84, R152). -/
  | init (o : InitOptions)
  /-- CLEAR (R85, R181). -/
  | clear
  /-- HOME (R85, R182). -/
  | home
  /-- GOTO (R86, R183). -/
  | goto (row : BitVec 4) (column : BitVec 8)
  /-- SETENTRY (R87, R184). -/
  | setentry (autoIncrement autoShift : Bool)
  /-- SETDISPLAY (R88, R185). -/
  | setdisplay (displayOn cursorOn blinkOn : Bool)
  /-- SETMOVE (R89, R186). -/
  | setmove (moveMode moveDirection : Bool)
  /-- LOADGLYPHS (R90, R187): the table's bytes in table order. -/
  | loadglyphs (table : List Byte)
  /-- WRITESTRING (R90, R189). -/
  | writestring (text : List Byte)
  /-- The command byte 0x01 (R100). -/
  | lcdDisplayClear
  /-- The command byte 0x02 (R100). -/
  | lcdDisplayHome
  /-- An entry-mode byte (R101). -/
  | lcdEntryMode (autoIncrement autoShift : Bool)
  /-- A display-mode byte (R101). -/
  | lcdDisplayMode (displayOn cursorOn blinkOn : Bool)
  /-- A move-mode byte (R101). -/
  | lcdMoveMode (moveMode moveDirection : Bool)
  /-- A function-set byte (R101). -/
  | lcdFunctionSet (dataWidth lineCount font : Bool)
  /-- A CGRAM address byte (R65, R101). -/
  | lcdCgramAddr (address : BitVec 6)
  /-- A DDRAM address byte (R64, R99). -/
  | lcdDdramAddr (address : BitVec 7)
  /-- The bring-up nibble 0x3 (R102, R154). -/
  | nibEightbit
  /-- The bring-up nibble 0x2 (R102, R154). -/
  | nibFourbit
  deriving DecidableEq, Repr

/-- Something put before the block: a frame's words on the command port (R80), or a byte or a nibble handed to the
NibbleTransmitter itself (R3, R122, R124; log 11, 12). -/
inductive Offered where
  | frame (words : List CmdWord)
  | byte (b : Byte)
  | nibble (n : Nibble)
  deriving DecidableEq, Repr

end Sys2Proof
end

