-- ==== Sys2Proof/WellFormed.lean ====
section
/-! DEFINITION. Well-formed instructions: the operand bounds that the field widths do not give by type. -/

namespace Sys2Proof

/-- `len` is a 12-bit field, so a table or a text has at most 4095 bytes (spec/30_encoding.md R90). -/
def lengthFits (bytes : List Byte) : Bool := decide (bytes.length ≤ 4095)

/-- The instruction can be encoded. -/
def Instr.wellFormed (i : Instr) : Bool :=
  match i with
  | .loadglyphs t => lengthFits t
  | .writestring t => lengthFits t
  | .sendbyte _ _ => true
  | .init _ => true
  | .clear => true
  | .home => true
  | .goto _ _ => true
  | .setentry _ _ => true
  | .setdisplay _ _ _ => true
  | .setmove _ _ => true
  | .lcdDisplayClear => true
  | .lcdDisplayHome => true
  | .lcdEntryMode _ _ => true
  | .lcdDisplayMode _ _ _ => true
  | .lcdMoveMode _ _ => true
  | .lcdFunctionSet _ _ _ => true
  | .lcdCgramAddr _ => true
  | .lcdDdramAddr _ => true
  | .nibEightbit => true
  | .nibFourbit => true

end Sys2Proof
end

