-- ==== Sys2Proof/Decode.lean ====
section
/-! DEFINITION. Decoding of frames, command bytes and bring-up nibbles (spec/30_encoding.md R80 to R91, R98 to R102), total
on any words, and the encoder written from the same layouts. -/

namespace Sys2Proof

/-- Why an offer is no instruction (R91; log 11, 12). -/
inductive Reserved where
  /-- `op` 0x0 or 0xB to 0xF. -/
  | op
  /-- A reserved `arg` bit is set. -/
  | arg
  /-- A data word has `DW[15:8]` nonzero. -/
  | dataWord
  deriving DecidableEq, Repr

/-- What the decoder reads from an offer. `rest` holds the words that follow the frame. -/
inductive Decoded where
  | instr (i : Instr) (rest : List CmdWord)
  | reserved (why : Reserved) (rest : List CmdWord)
  /-- Not all words of the frame are there (log 9). -/
  | incomplete
  /-- A byte that is no LCD8 row. -/
  | noByteRow
  /-- A nibble that is no NIB4 row. -/
  | noNibbleRow
  deriving DecidableEq, Repr

/-- A row of the opcode table: the word `w` is of the row when `w &&& mask = pattern`. -/
structure Row (n : Nat) where
  mask : BitVec n
  pattern : BitVec n
  deriving DecidableEq, Repr

/-- The word is one of the row's. -/
def Row.hits {n : Nat} (r : Row n) (w : BitVec n) : Bool := w &&& r.mask == r.pattern

/-- The CW16 rows (R82 to R90). -/
def rowSendbyte : Row 16 := ⟨0xFE00, 0x1000⟩
def rowInit : Row 16 := ⟨0xFC00, 0x2000⟩
def rowClear : Row 16 := ⟨0xFFFF, 0x3000⟩
def rowHome : Row 16 := ⟨0xFFFF, 0x4000⟩
def rowGoto : Row 16 := ⟨0xF000, 0x5000⟩
def rowSetentry : Row 16 := ⟨0xFFFC, 0x6000⟩
def rowSetdisplay : Row 16 := ⟨0xFFF8, 0x7000⟩
def rowSetmove : Row 16 := ⟨0xFFFC, 0x8000⟩
def rowLoadglyphs : Row 16 := ⟨0xF000, 0x9000⟩
def rowWritestring : Row 16 := ⟨0xF000, 0xA000⟩

/-- The LCD8 rows (R99 to R101). -/
def rowDisplayClear : Row 8 := ⟨0xFF, 0x01⟩
def rowDisplayHome : Row 8 := ⟨0xFF, 0x02⟩
def rowEntryMode : Row 8 := ⟨0xFC, 0x04⟩
def rowDisplayMode : Row 8 := ⟨0xF8, 0x08⟩
def rowMoveMode : Row 8 := ⟨0xF3, 0x10⟩
def rowFunctionSet : Row 8 := ⟨0xE3, 0x20⟩
def rowCgramAddr : Row 8 := ⟨0xC0, 0x40⟩
def rowDdramAddr : Row 8 := ⟨0x80, 0x80⟩

/-- The NIB4 rows (R102). -/
def rowEightbit : Row 4 := ⟨0xF, 0x3⟩
def rowFourbit : Row 4 := ⟨0xF, 0x2⟩

/-- `op = CW[15:12]` (R81). -/
def opField (cw : CmdWord) : BitVec 4 := cw.extractLsb' 12 4

/-- `len = arg[11:0]` of LOADGLYPHS and WRITESTRING (R90). -/
def lenField (cw : CmdWord) : Nat := (cw.extractLsb' 0 12).toNat

/-- Mode bit: 0 Command, 1 Data (R83). -/
def Mode.ofBit (b : Bool) : Mode := if b then .data else .command

/-- How many data words follow the command word (R90). -/
def dataWordCount (cw : CmdWord) : Nat :=
  if rowLoadglyphs.hits cw || rowWritestring.hits cw then lenField cw else 0

/-- The operands of INIT (R84). -/
def initOptions (cw : CmdWord) : InitOptions where
  dataWidth := cw.getLsbD 9
  lineCount := cw.getLsbD 8
  font := cw.getLsbD 7
  displayOn := cw.getLsbD 6
  cursorOn := cw.getLsbD 5
  blinkOn := cw.getLsbD 4
  autoIncrement := cw.getLsbD 3
  autoShift := cw.getLsbD 2
  moveMode := cw.getLsbD 1
  moveDirection := cw.getLsbD 0

/-- A data word carries a byte in bits 7:0 and zeros above (R90). -/
def dataByte (dw : CmdWord) : Byte := dw.extractLsb' 0 8

/-- `DW[15:8]` is zero (R90, R91). -/
def dataWordLegal (dw : CmdWord) : Bool := dw.extractLsb' 8 8 == 0

/-- The instruction of a command word and the data words that belong to it; `none` where the word is reserved. -/
def decodeWords (cw : CmdWord) (dws : List CmdWord) : Option Instr :=
  if rowSendbyte.hits cw then some (.sendbyte (cw.extractLsb' 0 8) (Mode.ofBit (cw.getLsbD 8)))
  else if rowInit.hits cw then some (.init (initOptions cw))
  else if rowClear.hits cw then some .clear
  else if rowHome.hits cw then some .home
  else if rowGoto.hits cw then some (.goto (cw.extractLsb' 8 4) (cw.extractLsb' 0 8))
  else if rowSetentry.hits cw then some (.setentry (cw.getLsbD 1) (cw.getLsbD 0))
  else if rowSetdisplay.hits cw then some (.setdisplay (cw.getLsbD 2) (cw.getLsbD 1) (cw.getLsbD 0))
  else if rowSetmove.hits cw then some (.setmove (cw.getLsbD 1) (cw.getLsbD 0))
  else if rowLoadglyphs.hits cw then some (.loadglyphs (dws.map dataByte))
  else if rowWritestring.hits cw then some (.writestring (dws.map dataByte))
  else none

/-- Which reserved encoding a command word without a row is (R91). -/
def reservedWhy (cw : CmdWord) : Reserved :=
  if opField cw = 0x0 ∨ 0xB ≤ opField cw then .op else .arg

/-- Read one frame from the words on the command port (R80, R90, R91). -/
def decodeFrame (words : List CmdWord) : Decoded :=
  match words with
  | [] => .incomplete
  | cw :: more =>
    if more.length < dataWordCount cw then .incomplete
    else
      let dws := more.take (dataWordCount cw)
      let rest := more.drop (dataWordCount cw)
      match decodeWords cw dws with
      | none => .reserved (reservedWhy cw) rest
      | some i => if dws.all dataWordLegal then .instr i rest else .reserved .dataWord rest

/-- The LCD8 row of a command byte (R99 to R101). -/
def decodeByte (b : Byte) : Option Instr :=
  if rowDisplayClear.hits b then some .lcdDisplayClear
  else if rowDisplayHome.hits b then some .lcdDisplayHome
  else if rowEntryMode.hits b then some (.lcdEntryMode (b.getLsbD 1) (b.getLsbD 0))
  else if rowDisplayMode.hits b then some (.lcdDisplayMode (b.getLsbD 2) (b.getLsbD 1) (b.getLsbD 0))
  else if rowMoveMode.hits b then some (.lcdMoveMode (b.getLsbD 3) (b.getLsbD 2))
  else if rowFunctionSet.hits b then some (.lcdFunctionSet (b.getLsbD 4) (b.getLsbD 3) (b.getLsbD 2))
  else if rowCgramAddr.hits b then some (.lcdCgramAddr (b.extractLsb' 0 6))
  else if rowDdramAddr.hits b then some (.lcdDdramAddr (b.extractLsb' 0 7))
  else none

/-- The NIB4 row of a nibble (R102). -/
def decodeNibble (n : Nibble) : Option Instr :=
  if rowEightbit.hits n then some .nibEightbit
  else if rowFourbit.hits n then some .nibFourbit
  else none

/-- Decode an offer. -/
def decode (x : Offered) : Decoded :=
  match x with
  | .frame words => decodeFrame words
  | .byte b =>
    match decodeByte b with
    | some i => .instr i []
    | none => .noByteRow
  | .nibble n =>
    match decodeNibble n with
    | some i => .instr i []
    | none => .noNibbleRow

/-! The encoder. -/

/-- One flag as one bit. -/
def bit (b : Bool) : BitVec 1 := BitVec.ofBool b

/-- The mode bit (R83). -/
def Mode.bit (m : Mode) : BitVec 1 :=
  match m with
  | .command => 0
  | .data => 1

/-- The command word of INIT (R84). -/
def encodeInit (o : InitOptions) : CmdWord :=
  0x2#4 ++ 0#2 ++ bit o.dataWidth ++ bit o.lineCount ++ bit o.font ++ bit o.displayOn ++ bit o.cursorOn ++
    bit o.blinkOn ++ bit o.autoIncrement ++ bit o.autoShift ++ bit o.moveMode ++ bit o.moveDirection

/-- A data word (R90). -/
def encodeData (b : Byte) : CmdWord := 0#8 ++ b

/-- The words of a well-formed instruction, or its byte, or its nibble. -/
def encode (i : Instr) : Offered :=
  match i with
  | .sendbyte p m => .frame [0x1#4 ++ 0#3 ++ m.bit ++ p]
  | .init o => .frame [encodeInit o]
  | .clear => .frame [0x3#4 ++ 0#12]
  | .home => .frame [0x4#4 ++ 0#12]
  | .goto r c => .frame [0x5#4 ++ r ++ c]
  | .setentry a b => .frame [0x6#4 ++ 0#10 ++ bit a ++ bit b]
  | .setdisplay a b c => .frame [0x7#4 ++ 0#9 ++ bit a ++ bit b ++ bit c]
  | .setmove a b => .frame [0x8#4 ++ 0#10 ++ bit a ++ bit b]
  | .loadglyphs t => .frame ((0x9#4 ++ BitVec.ofNat 12 t.length) :: t.map encodeData)
  | .writestring t => .frame ((0xA#4 ++ BitVec.ofNat 12 t.length) :: t.map encodeData)
  | .lcdDisplayClear => .byte 0x01
  | .lcdDisplayHome => .byte 0x02
  | .lcdEntryMode a b => .byte (0b000001#6 ++ bit a ++ bit b)
  | .lcdDisplayMode a b c => .byte (0b00001#5 ++ bit a ++ bit b ++ bit c)
  | .lcdMoveMode a b => .byte (0b0001#4 ++ bit a ++ bit b ++ 0#2)
  | .lcdFunctionSet a b c => .byte (0b001#3 ++ bit a ++ bit b ++ bit c ++ 0#2)
  | .lcdCgramAddr a => .byte (0b01#2 ++ a)
  | .lcdDdramAddr a => .byte (0b1#1 ++ a)
  | .nibEightbit => .nibble 0x3
  | .nibFourbit => .nibble 0x2

/-! The host's reading of a table word. -/

/-- The words of a frame whose bits are `w`, the first word in the low 16 bits; all the data words that its command
word announces are there, zero where `w` has no bits for them. -/
def tableWords (w : Nat) : List CmdWord :=
  (List.range (1 + dataWordCount (BitVec.ofNat 16 w))).map fun k => BitVec.ofNat 16 (w >>> (16 * k))

/-- The offer that a table row's bits stand for: up to 4 bits a nibble, up to 8 a command byte, else a frame. The host
gives a NIB4 row's 4 bits as a whole byte, so a byte that is no LCD8 row and has no high half is read as a nibble
(log 13). -/
def tableOffer (nbits w : Nat) : Offered :=
  if nbits ≤ 4 then .nibble (BitVec.ofNat 4 w)
  else if nbits ≤ 8 then
    if (decodeByte (BitVec.ofNat 8 w)).isNone && decide (w < 16) then .nibble (BitVec.ofNat 4 w)
    else .byte (BitVec.ofNat 8 w)
  else .frame (tableWords (w % 2 ^ nbits))

/-- The instruction the decoder reads from a table word. -/
def decodeTableWord (nbits w : Nat) : Option Instr :=
  match decode (tableOffer nbits w) with
  | .instr i _ => some i
  | .reserved _ _ => none
  | .incomplete => none
  | .noByteRow => none
  | .noNibbleRow => none

end Sys2Proof
end

