-- ==== Sys2Proof/Config.lean ====
section
/-! DEFINITION. What an implementation fixes: the configuration (spec/00_scope.md R9, R10), the table LCDC of
command-byte constants (spec/30_encoding.md R100), and the values the spec leaves free (spec/93_implementation_defined.md U1 to U5, U8),
each an opaque constant that no proof can see into. -/

namespace Sys2Proof

/-- PINMAP: which expander bit carries each LCD signal (spec/10_state.md R21). `db0` is DB4's bit, `db3` is DB7's. -/
structure PinMap where
  rs : Fin 8
  en : Fin 8
  db0 : Fin 8
  db1 : Fin 8
  db2 : Fin 8
  db3 : Fin 8
  deriving DecidableEq, Repr

/-- The six indices of a pin map. -/
def PinMap.indices (p : PinMap) : List (Fin 8) := [p.rs, p.en, p.db0, p.db1, p.db2, p.db3]

/-- GEOM: rows, columns and the DDRAM address at which each row starts (spec/10_state.md R22). -/
structure Geometry where
  rows : Nat
  columns : Nat
  rowStart : List (BitVec 7)
  deriving DecidableEq, Repr

/-- The named waits, in microseconds (R9, R23, R237). `tick` is TICK, the timer's resolution; 0 stands for a timer
without steps. -/
structure Timing where
  tEn : Nat
  tInit1 : Nat
  tInit2 : Nat
  tInit3 : Nat
  tInit4 : Nat
  tClear : Nat
  tPowerOn : Nat
  tick : Nat
  deriving DecidableEq, Repr

/-- The configuration inputs that reset latches (spec/70_reset_and_hazards.md R261). -/
structure Straps where
  pinmap : PinMap
  geom : Geometry
  deriving DecidableEq, Repr

/-- The configuration the block works with: what reset latched, and the constants (spec/10_state.md R20, R36). -/
structure Setup where
  pinmap : PinMap
  geom : Geometry
  timing : Timing
  outReg : Nat
  deriving DecidableEq, Repr

/-- "all 6 indices distinct, each in [0,7]" (R10); the bound is in the type. -/
abbrev PinMap.Legal (p : PinMap) : Prop := p.indices.Nodup

/-- The geometry conditions of R10. -/
abbrev Geometry.Legal (g : Geometry) : Prop :=
  1 ≤ g.rows ∧ g.rows ≤ 4 ∧ 1 ≤ g.columns ∧ g.rowStart.length = g.rows ∧
    ∀ a ∈ g.rowStart, a.toNat + g.columns - 1 ≤ 0x7F

/-- The configuration inputs are legal (R10). -/
abbrev Straps.Legal (c : Straps) : Prop := c.pinmap.Legal ∧ c.geom.Legal

/-- The configuration in use is legal (R10). -/
abbrev Setup.Legal (c : Setup) : Prop := c.pinmap.Legal ∧ c.geom.Legal

/-- LCDC (spec/30_encoding.md R100): the LCD command-byte constants. -/
structure LcdConstants where
  displayClear : Byte
  displayHome : Byte
  entryBase : Byte
  entryIncrement : Byte
  entryShift : Byte
  displayBase : Byte
  displayOn : Byte
  displayCursor : Byte
  displayBlink : Byte
  moveBase : Byte
  moveDisplay : Byte
  moveRight : Byte
  functionBase : Byte
  functionData : Byte
  functionLines : Byte
  functionFont : Byte
  cgramBase : Byte
  ddramBase : Byte
  deriving DecidableEq, Repr

/-- The values of R100. All but `ddramBase` are general knowledge that the spec supplies (93 G1; log 14). -/
def Config.lcdc : LcdConstants where
  displayClear := 0x01
  displayHome := 0x02
  entryBase := 0x04
  entryIncrement := 0x02
  entryShift := 0x01
  displayBase := 0x08
  displayOn := 0x04
  displayCursor := 0x02
  displayBlink := 0x01
  moveBase := 0x10
  moveDisplay := 0x08
  moveRight := 0x04
  functionBase := 0x20
  functionData := 0x10
  functionLines := 0x08
  functionFont := 0x04
  cgramBase := 0x40
  ddramBase := 0x80

/-- The waits of R9; T_POWERON is the recommended value and TICK one microsecond (DESIGN CHOICE, log 7). -/
def Config.timing : Timing where
  tEn := 5000
  tInit1 := 4100
  tInit2 := 100
  tInit3 := 100
  tInit4 := 37
  tClear := 1600
  tPowerOn := 40000
  tick := 1

/-- The configuration at the inputs in the state `State.reset` (DESIGN CHOICE, log 6): the spec's example pin map PM1
and the source's example geometry. Every other legal configuration is a state of its own. -/
def Config.straps : Straps where
  pinmap := ⟨0, 1, 2, 3, 4, 5⟩
  geom := ⟨4, 20, [0x00, 0x40, 0x14, 0x54]⟩

/-- OUT_REG in `State.reset` (OPEN in R9; DESIGN CHOICE, log 7). -/
def Config.outReg : Nat := 0

/-- What a port primitive answers (spec/20_memory.md R55). `waiting`: it has not answered yet (93 U5; log 2). -/
inductive PortAnswer where
  | ok
  | fault
  | waiting
  deriving DecidableEq, Repr, Inhabited

/-- The bus mode a controller is in (spec/10_state.md R34). -/
inductive BusMode where
  | four
  | eight
  deriving DecidableEq, Repr, Inhabited

/-- What the controller takes at a latch event: the level of RS and the nibble on DB4..DB7 (R35). -/
structure Latch where
  rs : Bool
  nib : Nibble
  deriving DecidableEq, Repr, Inhabited

/-- The controller's address counter: a place in DDRAM or in CGRAM (R34, R64, R65). -/
inductive Place where
  | ddram (a : BitVec 7)
  | cgram (a : BitVec 6)
  deriving DecidableEq, Repr, Inhabited

/-- The registers of the controller (R34; the meanings of the settings are R98's). `half` is the high nibble that
waits for its low nibble, if the next nibble is a low one. `view` counts how far the display is shifted to the right. -/
structure LcdRegs where
  bus : BusMode
  half : Option Latch
  lines : Bool
  font : Bool
  inc : Bool
  shiftOn : Bool
  on : Bool
  cursor : Bool
  blink : Bool
  place : Place
  view : Int
  deriving DecidableEq, Repr, Inhabited

/-- OUT after reset (R33, R36, U8): unknown. -/
opaque Config.outAtReset : Byte

/-- OUT after a primitive that answered `fault` (R56, U2). -/
opaque Config.outAfterFault : Nat → Byte

/-- The port's answers past the ones listed in State (R55; log 2). -/
opaque Config.portAnswer : Nat → PortAnswer

/-- The controller's registers after reset (R36, U1). -/
opaque Config.lcdAtReset : LcdRegs

/-- The controller's registers after a BusFault or a byte that loses it (U3, U4, U15). -/
opaque Config.lcdLost : Nat → LcdRegs

/-- What a register of the controller holds after a latch event whose effect on it the spec does not state. -/
opaque Config.lcdOpen : Nat → LcdRegs

/-- How long the controller is still busy after reset (R34). -/
opaque Config.owedAtReset : Nat

/-- How long the controller is still busy after a BusFault (R34, U3). -/
opaque Config.owedLost : Nat → Nat

end Sys2Proof
end

