-- ==== Sys2Proof/Machine/State.lean ====
section
/-! DEFINITION. The state of the machine: the block (spec/10_state.md), the devices it drives (R33, R34), what the outside
world offers it, and the records of what came out. Plain data throughout. -/

namespace Sys2Proof.Machine

/-- The milestones of the InitSequencer (R25, R150). -/
inductive InitState where
  | unpowered
  | forcedIdle
  | eightBitPulse1
  | eightBitPulse2
  | eightBitPulse3
  | functionLocked
  | displayOff
  | entrySet
  | displayConfigured
  | cleared
  | ready
  deriving DecidableEq, Repr

/-- The 4-bit code of a milestone, as the host reads it (R25). -/
def InitState.code (m : InitState) : BitVec 4 :=
  match m with
  | .unpowered => 0
  | .forcedIdle => 1
  | .eightBitPulse1 => 2
  | .eightBitPulse2 => 3
  | .eightBitPulse3 => 4
  | .functionLocked => 5
  | .displayOff => 6
  | .entrySet => 7
  | .displayConfigured => 8
  | .cleared => 9
  | .ready => 10

/-- The status an operation completes with (spec/30_encoding.md R96). The block never produces `bufferOverflow` (R224). -/
inductive Status where
  | ok
  | busFault
  | notInitialized
  | outOfRange
  | bufferOverflow
  | illegalCommand
  deriving DecidableEq, Repr

/-- The 3-bit status codes (R96). -/
def Status.code (st : Status) : BitVec 3 :=
  match st with
  | .ok => 0
  | .busFault => 1
  | .notInitialized => 2
  | .outOfRange => 3
  | .bufferOverflow => 4
  | .illegalCommand => 5

/-- The three primitives of the ExpanderPort, all on OUT_REG (spec/20_memory.md R52 to R54). -/
inductive Primitive where
  | wb (v : Byte)
  | sb (m : Byte)
  | cb (m : Byte)
  deriving DecidableEq, Repr

/-- The block's own elements that a micro-operation writes (R13 `ST`; only INIT has such micro-operations). -/
inductive StateWrite where
  | initialized (v : Bool)
  | initState (v : InitState)
  deriving DecidableEq, Repr

/-- A micro-operation (spec/00_scope.md R13). -/
inductive MicroOp where
  | port (p : Primitive)
  | dly (d : Nat)
  | st (w : StateWrite)
  deriving DecidableEq, Repr

/-- An entry of the port trace (R13): a primitive on a register of the expander, or a wait. -/
inductive PortEvent where
  | call (reg : Nat) (p : Primitive)
  | wait (d : Nat)
  deriving DecidableEq, Repr

/-- What a host puts before the block (spec/30_encoding.md R80, spec/60_exceptions.md R245). -/
structure Request where
  host : Nat
  offer : Offered
  deriving DecidableEq, Repr

/-- A status returned to a host (R96, R226). -/
structure Reply where
  host : Nat
  status : Status
  deriving DecidableEq, Repr

/-- A moment in the middle of an operation at which the outside world acts: a host looks or offers a frame, or reset comes
(spec/70_reset_and_hazards.md R260; log 1). The step it belongs to stops there. -/
structure Pause where
  /-- How many micro-operations that step completes before it. -/
  done : Nat
  /-- `none`: the next micro-operation has not started. `some us`: it has; of a wait, `us` microseconds have passed. -/
  started : Option Nat
  /-- Reset is applied at this moment. -/
  reset : Bool
  deriving DecidableEq, Repr

/-- The ghost of R34: whether anything may be claimed of the panel. -/
inductive CtrlSync where
  | unknown
  | inSync
  deriving DecidableEq, Repr

/-- The known cells of one of the controller's memories: addresses strictly rising. An address that is not listed is not
known; nothing in the machine reads one (log 5). -/
abbrev Memory := List Host.Cell

/-- The controller behind the expander (R34). -/
structure Lcd where
  regs : LcdRegs
  ddram : Memory
  cgram : Memory
  /-- Microseconds of settle the controller still needs (R34 "still busy with the last command", R191; log 18). -/
  owed : Nat
  deriving DecidableEq, Repr

/-- The state. -/
structure State where
  /-- The configuration inputs (R261). -/
  straps : Straps
  /-- The reset input (R260). -/
  resetReq : Bool
  /-- PINMAP and GEOM as latched, the timing constants and OUT_REG (R21 to R23). -/
  cfg : Setup
  /-- R24. -/
  initialized : Bool
  /-- R25. -/
  initState : InitState
  /-- R26. -/
  busy : Bool
  /-- R30. -/
  upc : Nat
  /-- R31. -/
  seq : List MicroOp
  /-- R32. -/
  timer : Nat
  /-- A wait has started and has not completed (R32). -/
  timerOn : Bool
  /-- The operation in progress (R120 `op`), or while the block is idle the last one that was admitted (log 25). -/
  op : Option Instr
  /-- A primitive has started and has not answered (R55, 93 U5). -/
  inFlight : Bool
  /-- OUT, the expander's output latch (R33). -/
  out : Byte
  /-- The controller (R34). -/
  lcd : Lcd
  /-- The ghost of R34. -/
  ctrlSync : CtrlSync
  /-- What hosts have offered and the block has not taken, oldest first. -/
  pending : List Request
  /-- The host whose request the block has taken last. -/
  issuer : Nat
  /-- The ExpanderPort's coming answers (R55). -/
  answers : List PortAnswer
  /-- Where the coming steps that run an operation stop in its middle, one for each such step (log 1). -/
  pauses : List Pause
  /-- How many answers have been drawn; the index of the free values (log 2). -/
  draws : Nat
  /-- The port trace (R13). -/
  trace : List PortEvent
  /-- The latched stream (R35). -/
  latched : List Latch
  /-- The statuses returned, oldest first. -/
  replies : List Reply
  /-- Least microseconds waited (R236). -/
  elapsed : Nat
  deriving DecidableEq, Repr

/-- The machine never stops with a fault: every error of the block ends an operation with a status and the block goes on
(spec/60_exceptions.md R220, R226), so there is no reason to list. -/
inductive Fault where
  deriving DecidableEq, Repr

/-- Why a step has no meaning. -/
inductive Refusal where
  /-- The instruction is not modelled yet; raised by `exec` alone. Safe. -/
  | notModelled (mnemonic : String)
  /-- Reset met configuration inputs that are not legal (R10, R261, 93 U9 "refuse"); raised by `step`. Safe. -/
  | illegalConfiguration
  /-- A byte handed to the NibbleTransmitter's own entrance is no LCD8 row of the table (log 11); raised by `step`. Safe. -/
  | noSuchCommandByte
  /-- A nibble handed to it is no NIB4 row (log 12); raised by `step`. Safe. -/
  | noSuchNibble
  deriving DecidableEq, Repr

/-- The machine right after power-up and reset with the given configuration inputs and constants (R36, R260 to R262). -/
def State.powerOn (straps : Straps) (timing : Timing) (outReg : Nat) : State where
  straps := straps
  resetReq := false
  cfg := ⟨straps.pinmap, straps.geom, timing, outReg⟩
  initialized := false
  initState := .unpowered
  busy := false
  upc := 0
  seq := []
  timer := 0
  timerOn := false
  op := none
  inFlight := false
  out := Config.outAtReset
  lcd := ⟨Config.lcdAtReset, [], [], Config.owedAtReset⟩
  ctrlSync := .unknown
  pending := []
  issuer := 0
  answers := []
  pauses := []
  draws := 0
  trace := []
  latched := []
  replies := []
  elapsed := 0

/-- The machine right after reset (R36), with the configuration of log 6 and log 7. -/
def State.reset : State := State.powerOn Config.straps Config.timing Config.outReg

end Sys2Proof.Machine
end

