-- ==== Sys2Proof/Machine/Memory.lean ====
section
/-! DEFINITION. The controller's two memories, DDRAM and CGRAM (spec/20_memory.md R50, R64, R65), as lists of known cells. -/

namespace Sys2Proof.Machine

/-- The canonical form: addresses strictly rising. No value stands for an unlisted cell, so none needs leaving out. -/
abbrev Memory.wf (m : Memory) : Prop := m.Pairwise fun c d => c.1 < d.1

/-- What is known of one cell. -/
def Memory.read (m : Memory) (a : Nat) : Option Byte :=
  match m with
  | [] => none
  | c :: cs => if c.1 = a then some c.2 else Memory.read cs a

/-- Write one cell, keeping the addresses in order. -/
def Memory.write (m : Memory) (a : Nat) (b : Byte) : Memory :=
  match m with
  | [] => [(a, b)]
  | c :: cs =>
    if a < c.1 then (a, b) :: c :: cs
    else if a = c.1 then (a, b) :: cs
    else c :: Memory.write cs a b

end Sys2Proof.Machine
end

