-- ==== Sys2Proof/Machine/Controller.lean ====
section
/-! DEFINITION. What the controller does with the nibbles it latches: the part of the HD44780 that the spec states
(spec/10_state.md R34, spec/20_memory.md R60, R64 to R66, spec/30_encoding.md R98, R102; general knowledge G1 to G8 of
spec/93_implementation_defined.md, which the spec supplies). No rule of the block reads any of it. What the spec does not
state is a free value (log 15 to 18). `k` indexes the free values. -/

namespace Sys2Proof.Machine

/-- The controller after something that leaves it "undefined until re-initialized" (U3, U15): nothing is known. -/
def Lcd.lost (k : Nat) : Lcd := ⟨Config.lcdLost k, [], [], Config.owedLost k⟩

/-- A latch event whose effect the spec does not state, in a controller whose bus mode it cannot change: the next nibble
is a high one (or, on the 8-bit bus, a whole instruction), the rest is open. -/
def Lcd.unstated (k : Nat) (bus : BusMode) (l : Lcd) : Lcd :=
  ⟨{ Config.lcdOpen k with bus := bus, half := none }, [], [], l.owed⟩

/-- A nibble latched while the controller is still busy (R191 "a following command racing the clear"): its registers and
memories are open. How long it stays busy after that is not stated either; that the settle it still owes neither grows nor
shrinks by the nibble is the model's choice (DESIGN CHOICE, log 18). -/
def Lcd.raced (k : Nat) (l : Lcd) : Lcd := ⟨Config.lcdOpen k, [], [], l.owed⟩

/-- The next address, up or down by one (G5, G7); `none` at the end of the memory, where the spec states nothing. -/
def Place.step (up : Bool) (p : Place) : Option Place :=
  match p with
  | .ddram a => if up then (if a = 0x7F#7 then none else some (.ddram (a + 1))) else (if a = 0 then none else some (.ddram (a - 1)))
  | .cgram a => if up then (if a = 0x3F#6 then none else some (.cgram (a + 1))) else (if a = 0 then none else some (.cgram (a - 1)))

/-- Move the address counter; open past the end of the memory. -/
def LcdRegs.movePlace (k : Nat) (up : Bool) (r : LcdRegs) : LcdRegs :=
  { r with place := (Place.step up r.place).getD (Config.lcdOpen k).place }

/-- Store a Data byte at the address counter (R50). -/
def Lcd.store (b : Byte) (l : Lcd) : Lcd :=
  match l.regs.place with
  | .ddram a => { l with ddram := Memory.write l.ddram a.toNat b }
  | .cgram a => { l with cgram := Memory.write l.cgram a.toNat b }

/-- A Data byte (R66, R98): store it, move the address counter by the entry mode; with `autoShift` the display shifts,
in a direction the spec does not state. -/
def Lcd.takeData (k : Nat) (b : Byte) (l : Lcd) : Lcd :=
  let t := l.store b
  { t with regs :=
      { LcdRegs.movePlace k l.regs.inc l.regs with
        half := none
        view := if l.regs.shiftOn then (Config.lcdOpen k).view else l.regs.view } }

/-- A command byte of the table (R98 to R101, R283). The clear wipes DDRAM and sets increment; the address after it, and
the address and the shift after home, are not stated. Nor is it stated that DDRAM, CGRAM and every other setting survive home: that
they do is the model's choice (DESIGN CHOICE, log 16). -/
def Lcd.obey (k tClear : Nat) (i : Instr) (l : Lcd) : Lcd :=
  let r := { l.regs with half := none }
  match i with
  | .lcdDisplayClear =>
    { l with
      regs := { r with inc := true, place := (Config.lcdOpen k).place, view := (Config.lcdOpen k).view }
      ddram := [], owed := tClear }
  | .lcdDisplayHome =>
    { l with regs := { r with place := (Config.lcdOpen k).place, view := (Config.lcdOpen k).view }, owed := tClear }
  | .lcdEntryMode a b => { l with regs := { r with inc := a, shiftOn := b } }
  | .lcdDisplayMode a b c => { l with regs := { r with on := a, cursor := b, blink := c } }
  | .lcdMoveMode a b =>
    if a then { l with regs := { r with view := if b then r.view + 1 else r.view - 1 } }
    else { l with regs := LcdRegs.movePlace k b r }
  | .lcdFunctionSet a b c => { l with regs := { r with bus := if a then .eight else .four, lines := b, font := c } }
  | .lcdCgramAddr a => { l with regs := { r with place := .cgram a } }
  | .lcdDdramAddr a => { l with regs := { r with place := .ddram a } }
  | .sendbyte _ _ | .init _ | .clear | .home | .goto _ _ | .setentry _ _ | .setdisplay _ _ _ | .setmove _ _
  | .loadglyphs _ | .writestring _ | .nibEightbit | .nibFourbit => l.unstated k l.regs.bus

/-- A payload that the controller reads as a function set, `0x20..0x3F` (R271). -/
def isFunctionSet (b : Byte) : Bool := decide (0x20 ≤ b ∧ b ≤ 0x3F)

/-- The controller's reading of a command byte: every byte in `0x20..0x3F` is a function set, whatever its two low bits
(R271); the others are the rows of the table (R99 to R101). -/
def readCommand (b : Byte) : Option Instr :=
  if isFunctionSet b then some (.lcdFunctionSet (b.getLsbD 4) (b.getLsbD 3) (b.getLsbD 2)) else decodeByte b

/-- A whole byte on the 4-bit bus. A command byte that is no row of the table, and so no function set, leaves the bus mode. -/
def Lcd.takeByte (k tClear : Nat) (rs : Bool) (b : Byte) (l : Lcd) : Lcd :=
  if rs then l.takeData k b
  else
    match readCommand b with
    | some i => l.obey k tClear i
    | none => l.unstated k l.regs.bus

/-- A nibble on the 8-bit bus, the other four lines not connected (G6): `0011` and `0010` with RS low are function sets
whose line count and font come from those lines; any other leaves the bus mode as it is. -/
def Lcd.takeWide (k : Nat) (e : Latch) (l : Lcd) : Lcd :=
  let open' := Config.lcdOpen k
  if e.rs then l.unstated k .eight
  else if e.nib = 0x3#4 then
    { l with regs := { l.regs with bus := .eight, half := none, lines := open'.lines, font := open'.font } }
  else if e.nib = 0x2#4 then
    { l with regs := { l.regs with bus := .four, half := none, lines := open'.lines, font := open'.font } }
  else l.unstated k .eight

/-- A nibble on the 4-bit bus (R60): the first of a pair waits for the second. Halves with different RS make no byte of
any rule, so what they do is open. -/
def Lcd.takeHalf (k tClear : Nat) (e : Latch) (l : Lcd) : Lcd :=
  match l.regs.half with
  | none => { l with regs := { l.regs with half := some e } }
  | some h =>
    if h.rs = e.rs then l.takeByte k tClear e.rs (h.nib ++ e.nib) else l.unstated k (Config.lcdOpen k).bus

/-- A latch event (R35). -/
def Lcd.latch (k tClear : Nat) (e : Latch) (l : Lcd) : Lcd :=
  if 0 < l.owed then l.raced k
  else
    match l.regs.bus with
    | .eight => l.takeWide k e
    | .four => l.takeHalf k tClear e

/-- Time passes. -/
def Lcd.rest (d : Nat) (l : Lcd) : Lcd := { l with owed := l.owed - d }

end Sys2Proof.Machine
end

