-- ==== Sys2Proof/Machine/Flags.lean ====
section
/-! DEFINITION. The composed command bytes: a base opcode and flag bits joined by OR (spec/30_encoding.md R98 to R101). The
block has no condition codes (spec/10_state.md R24); these are its only flags. -/

namespace Sys2Proof.Machine

/-- A flag contributes its bit value when it is 1 and nothing when it is 0 (R98). -/
def flagBits (flag : Bool) (value : Byte) : Byte := if flag then value else 0x00

/-- `EntryByte(i, s)` (R101). -/
def entryByte (i s : Bool) : Byte :=
  Config.lcdc.entryBase ||| flagBits i Config.lcdc.entryIncrement ||| flagBits s Config.lcdc.entryShift

/-- `DisplayByte(d, c, b)` (R101). -/
def displayByte (d c b : Bool) : Byte :=
  Config.lcdc.displayBase ||| flagBits d Config.lcdc.displayOn ||| flagBits c Config.lcdc.displayCursor |||
    flagBits b Config.lcdc.displayBlink

/-- `MoveByte(v, r)` (R101). -/
def moveByte (v r : Bool) : Byte :=
  Config.lcdc.moveBase ||| flagBits v Config.lcdc.moveDisplay ||| flagBits r Config.lcdc.moveRight

/-- `FunctionByte(w, l, f)` (R101). -/
def functionByte (w l f : Bool) : Byte :=
  Config.lcdc.functionBase ||| flagBits w Config.lcdc.functionData ||| flagBits l Config.lcdc.functionLines |||
    flagBits f Config.lcdc.functionFont

/-- `DdramByte(addr)` (R99, R101). -/
def ddramByte (addr : Nat) : Byte := Config.lcdc.ddramBase ||| BitVec.ofNat 8 addr

/-- `CgramByte(a)` (R101). -/
def cgramByte (a : BitVec 6) : Byte := Config.lcdc.cgramBase ||| a.setWidth 8

end Sys2Proof.Machine
end

