-- ==== Sys2Proof/Machine/Operands.lean ====
section
/-! DEFINITION. From payloads to micro-operations: the nibble split, the pin-mapper multiplexer and the lists from which
every operation is built (spec/30_encoding.md R94, R97; spec/40_nibble_transmitter.md R121 to R124; spec/42_display_commands.md
R190, R191). -/

namespace Sys2Proof.Machine

/-- `hi = b[7:4]` (R97). -/
def highNibble (b : Byte) : Nibble := b.extractLsb' 4 4

/-- `lo = b[3:0]` (R97). -/
def lowNibble (b : Byte) : Nibble := b.extractLsb' 0 4

/-- `1 << k` at 8 bits, for an expander bit `k` (R11). -/
def pinBit (k : Fin 8) : Byte := 1#8 <<< k.val

/-- The pin's bit if the signal is high, nothing if it is low. -/
def drivePin (level : Bool) (k : Fin 8) : Byte := if level then pinBit k else 0x00

/-- RS is high for `Data` and low for `Command` (R15). -/
def Mode.rsLevel (m : Mode) : Bool :=
  match m with
  | .command => false
  | .data => true

/-- `Word(mode, n)` (R94). -/
def outputWord (p : PinMap) (mode : Mode) (n : Nibble) : Byte :=
  drivePin (Mode.rsLevel mode) p.rs ||| drivePin (n.getLsbD 0) p.db0 ||| drivePin (n.getLsbD 1) p.db1 |||
    drivePin (n.getLsbD 2) p.db2 ||| drivePin (n.getLsbD 3) p.db3

/-- The level of an expander output. -/
def pinLevel (out : Byte) (k : Fin 8) : Bool := out.getLsbD k.val

/-- The nibble the panel sees on DB4..DB7 (R35): bit `i` is `OUT[PINMAP.db[i]]`. -/
def panelNibble (p : PinMap) (out : Byte) : Nibble :=
  BitVec.ofBool (pinLevel out p.db3) ++ BitVec.ofBool (pinLevel out p.db2) ++ BitVec.ofBool (pinLevel out p.db1) ++
    BitVec.ofBool (pinLevel out p.db0)

/-- RS and the nibble as the panel sees them (R35). -/
def panelLatch (p : PinMap) (out : Byte) : Latch := ⟨pinLevel out p.rs, panelNibble p out⟩

/-- `PulseEN(d_hi, d_lo)` (R121). -/
def pulseEN (p : PinMap) (dHi dLo : Nat) : List MicroOp :=
  [.port (.sb (pinBit p.en)), .dly dHi, .port (.cb (pinBit p.en)), .dly dLo]

/-- `Nibble(mode, n, d_hi, d_lo)` (R122). -/
def sendNibble (p : PinMap) (mode : Mode) (n : Nibble) (dHi dLo : Nat) : List MicroOp :=
  .port (.wb (outputWord p mode n)) :: pulseEN p dHi dLo

/-- `SendByte(mode, b)` (R124): the unguarded primitive of the NibbleTransmitter. -/
def sendByte (c : Setup) (mode : Mode) (b : Byte) : List MicroOp :=
  sendNibble c.pinmap mode (highNibble b) c.timing.tEn c.timing.tEn ++
    sendNibble c.pinmap mode (lowNibble b) c.timing.tEn c.timing.tEn

/-- Each byte as Data, in order (R187, R189). -/
def sendData (c : Setup) (bytes : List Byte) : List MicroOp := bytes.flatMap (sendByte c .data)

/-- `SendByte(Command, b)` and then the settle `T_CLEAR` (R182, R191). -/
def sendSettled (c : Setup) (b : Byte) : List MicroOp := sendByte c .command b ++ [.dly c.timing.tClear]

/-- `ClearSeq` (R191). -/
def clearSeq (c : Setup) : List MicroOp := sendSettled c Config.lcdc.displayClear

/-- `GEOM.rowStart[row]` as a number (R64); a row that the geometry lacks is refused before this is read (R183). -/
def rowStartOf (g : Geometry) (row : Nat) : Nat := (g.rowStart.getD row 0).toNat

/-- `AddrReset` (R190). -/
def addrReset (c : Setup) : List MicroOp := sendByte c .command (ddramByte (rowStartOf c.geom 0))

/-- A mode byte and then the clear (R184 to R186). -/
def sendThenClear (c : Setup) (b : Byte) : List MicroOp := sendByte c .command b ++ clearSeq c

end Sys2Proof.Machine
end

