-- ==== Sys2Proof/Machine/Ops.lean ====
section
/-! DEFINITION. The named operations over the state: the ExpanderPort's primitives and the waits (spec/20_memory.md R52 to R56,
spec/60_exceptions.md R236), performing a list of micro-operations (spec/40_nibble_transmitter.md R120), ending an operation
and raising an error (R226), admission, and reset (spec/70_reset_and_hazards.md R260 to R262). -/

namespace Sys2Proof.Machine

/-! ### The ExpanderPort -/

/-- What OUT becomes when the primitive answers `ok` (R52 to R54). -/
def Primitive.result (p : Primitive) (out : Byte) : Byte :=
  match p with
  | .wb v => v
  | .sb m => out ||| m
  | .cb m => out &&& ~~~m

/-- Add an entry to the port trace (R13). -/
def State.record (e : PortEvent) (s : State) : State := { s with trace := s.trace ++ [e] }

/-- Start a primitive: it enters the port trace once, however long its answer takes (R13, R55). -/
def State.startCall (p : Primitive) (s : State) : State :=
  if s.inFlight then s else { s.record (.call s.cfg.outReg p) with inFlight := true }

/-- The port's next answer: the next listed one, or a free one (R55; log 2). -/
def State.nextAnswer (s : State) : PortAnswer :=
  match s.answers with
  | [] => Config.portAnswer s.draws
  | a :: _ => a

/-- The answer has been drawn. -/
def State.takeAnswer (s : State) : State := { s with answers := s.answers.tail, draws := s.draws + 1 }

/-- EN falls (R35): the controller latches RS and the nibble as OUT then stands. -/
def State.latchEvent (s : State) : State :=
  let e := panelLatch s.cfg.pinmap s.out
  { s with latched := s.latched ++ [e], lcd := s.lcd.latch s.draws s.cfg.timing.tClear e }

/-- OUT takes a value (R52 to R54); a fall of EN is a latch event (R35). -/
def State.drive (v : Byte) (s : State) : State :=
  let t := { s with out := v }
  if pinLevel s.out s.cfg.pinmap.en && !pinLevel v s.cfg.pinmap.en then t.latchEvent else t

/-- The primitive in flight has answered `ok`. -/
def State.callOk (p : Primitive) (s : State) : State := State.drive (p.result s.out) { s with inFlight := false }

/-- The primitive in flight has answered `fault`: OUT is any value (R56, U2; log 4). -/
def State.callFault (s : State) : State := { s with inFlight := false, out := Config.outAfterFault s.draws }

/-! ### Waits -/

/-- How long the timer runs for a wait of `d`: rounded up to whole ticks (R9 TICK, 92 D8). -/
def Timing.waited (t : Timing) (d : Nat) : Nat := if t.tick = 0 then d else (d + t.tick - 1) / t.tick * t.tick

/-- A `DLY` loads the timer (R32). -/
def State.loadTimer (d : Nat) (s : State) : State := { s with timer := Timing.waited s.cfg.timing d, timerOn := true }

/-- Start a wait: it enters the port trace once, and the timer is loaded (R13, R32). -/
def State.startWait (d : Nat) (s : State) : State := if s.timerOn then s else (s.record (.wait d)).loadTimer d

/-- Part of a wait passes, at most what is left of it (R32). -/
def State.passTime (us : Nat) (s : State) : State :=
  let d := min us s.timer
  { s with elapsed := s.elapsed + d, lcd := s.lcd.rest d, timer := s.timer - d }

/-- The timer runs out (R32, R236). -/
def State.runTimer (s : State) : State :=
  { s with elapsed := s.elapsed + s.timer, lcd := s.lcd.rest s.timer, timer := 0, timerOn := false }

/-- `DLY(d)`, or what is left of it if it has started (R13, R236; log 8). -/
def State.wait (d : Nat) (s : State) : State := (s.startWait d).runTimer

/-! ### The block's own elements -/

/-- `ST(name, v)` (R13). -/
def State.assign (w : StateWrite) (s : State) : State :=
  match w with
  | .initialized v => { s with initialized := v }
  | .initState v => { s with initState := v }

/-! ### The end of an operation -/

/-- The instruction is INIT. -/
def isInit (i : Instr) : Bool :=
  match i with
  | .init _ => true
  | .sendbyte _ _ | .clear | .home | .goto _ _ | .setentry _ _ | .setdisplay _ _ _ | .setmove _ _ | .loadglyphs _
  | .writestring _ | .lcdDisplayClear | .lcdDisplayHome | .lcdEntryMode _ _ | .lcdDisplayMode _ _ _ | .lcdMoveMode _ _
  | .lcdFunctionSet _ _ _ | .lcdCgramAddr _ | .lcdDdramAddr _ | .nibEightbit | .nibFourbit => false

/-- Completing this instruction leaves the panel undefined: INIT with `dataWidth` 1 (R161), a function-set byte outside
INIT (R271, U15), a lone nibble outside INIT (R60; log 12, 19). -/
def losesPanel (i : Instr) : Bool :=
  match i with
  | .init o => o.dataWidth
  | .sendbyte p m => decide (m = .command) && isFunctionSet p
  | .lcdFunctionSet _ _ _ => true
  | .nibEightbit => true
  | .nibFourbit => true
  | .clear | .home | .goto _ _ | .setentry _ _ | .setdisplay _ _ _ | .setmove _ _ | .loadglyphs _ | .writestring _
  | .lcdDisplayClear | .lcdDisplayHome | .lcdEntryMode _ _ | .lcdDisplayMode _ _ _ | .lcdMoveMode _ _
  | .lcdCgramAddr _ | .lcdDdramAddr _ => false

/-- What can be said of the panel is over: `ctrl_sync <- Unknown` (R34), and the controller is any (U3, U15). -/
def State.losePanel (s : State) : State := { s with ctrlSync := .unknown, lcd := Lcd.lost s.draws }

/-- The panel after INIT has completed with `dataWidth` 0 (R34, R264): in sync, the address at row 0, column 0, and CGRAM
not known (U7; log 17). -/
def State.panelReady (s : State) : State :=
  { s with
    ctrlSync := .inSync
    lcd := { s.lcd with
      cgram := []
      regs := { s.lcd.regs with place := .ddram (BitVec.ofNat 7 (rowStartOf s.cfg.geom 0)) } } }

/-- What the end of an instruction with status `Ok` does to the panel's side (R34). -/
def State.panelAfter (i : Instr) (s : State) : State :=
  if losesPanel i then s.losePanel else if isInit i then s.panelReady else s

/-- Return a status to the host (R96, R226). -/
def State.reply (st : Status) (s : State) : State := { s with replies := s.replies ++ [⟨s.issuer, st⟩] }

/-- `complete s` (R120): `busy <- 0` and the status goes to the host. -/
def State.complete (st : Status) (s : State) : State := State.reply st { s with busy := false }

/-- The list has run to its end: status `Ok` (R30, R120). -/
def State.finish (s : State) : State :=
  State.complete .ok (match s.op with
    | some i => s.panelAfter i
    | none => s)

/-- Raise an error, the block's trap entry (R226): the operation ends with the status; nothing else is saved. There is
no return from it (R231). -/
def State.raise (st : Status) (s : State) : State := s.complete st

/-- A port primitive answered `fault` (R120 `Abort`, R158, R230): INIT goes back to Unpowered, the panel is undefined, and
`BusFault` is raised. -/
def State.abort (s : State) : State :=
  let t := match s.op with
    | some i => if isInit i then { s with initState := .unpowered } else s
    | none => s
  t.losePanel.raise .busFault

/-! ### Performing a list of micro-operations -/

/-- Perform one micro-operation (R13, R55): the answer of a primitive, `ok` for a wait or a state write. -/
def State.perform (m : MicroOp) (s : State) : PortAnswer × State :=
  match m with
  | .port p =>
    let t := s.startCall p
    match t.nextAnswer with
    | .ok => (.ok, t.takeAnswer.callOk p)
    | .fault => (.fault, t.takeAnswer.callFault)
    | .waiting => (.waiting, t.takeAnswer)
  | .dly d => (.ok, s.wait d)
  | .st w => (.ok, s.assign w)

/-- Step to the next micro-operation (R30). -/
def State.advance (s : State) : State := { s with upc := s.upc + 1 }

/-- Perform a list in order (R120): to its end, where `last` follows, to the first `fault`, or to a primitive that has not
answered, where the block stays busy (93 U5; log 2). -/
def State.runList (last : State → State) (ops : List MicroOp) (s : State) : State :=
  match ops with
  | [] => last s
  | m :: ms =>
    match s.perform m with
    | (.ok, t) => State.runList last ms t.advance
    | (.fault, t) => t.abort
    | (.waiting, t) => t

/-- The next micro-operation starts and does not complete: a primitive is in flight, a wait has run for `us`
microseconds. -/
def State.startNext (us : Nat) (next : Option MicroOp) (s : State) : State :=
  match next with
  | some (.port p) => s.startCall p
  | some (.dly d) => (s.startWait d).passTime us
  | some (.st _) => s
  | none => s

/-- The step stops in the middle of the operation, before or in its next micro-operation; the block stays busy (R26; log 1).
Reset may come at this moment (R260). -/
def State.pauseAt (p : Pause) (next : Option MicroOp) (s : State) : State :=
  let t := match p.started with
    | some us => s.startNext us next
    | none => s
  { t with resetReq := t.resetReq || p.reset }

/-- The pause of this step is used up. -/
def State.takePause (s : State) : State := { s with pauses := s.pauses.tail }

/-- Perform the rest of an operation (R120): to its completion, or to the pause of this step if it comes first. -/
def State.runOps (ops : List MicroOp) (s : State) : State :=
  match s.pauses with
  | [] => State.runList State.finish ops s
  | p :: _ =>
    if p.done ≤ ops.length then State.runList (State.pauseAt p ops[p.done]?) (ops.take p.done) s.takePause
    else State.runList State.finish ops s.takePause

/-! ### Admission -/

/-- The frame is taken: `busy <- 1` (R80, R120). -/
def State.begin (i : Instr) (s : State) : State :=
  { s with busy := true, op := some i, inFlight := false, timerOn := false }

/-- The operation is admitted: `seq <- Expand(op); upc <- 0` (R120). -/
def State.load (ops : List MicroOp) (s : State) : State := { s with seq := ops, upc := 0 }

/-- Run an instruction (R120 `Exec`): refuse it with a status, or expand it and perform its list. A refusal sets `busy` and
clears it again (R80, R226), so nothing of the block changes. While the block is busy no instruction is taken (R80; log 23). -/
def State.operate (i : Instr) (refusal : Option Status) (ops : List MicroOp) (s : State) : State :=
  if s.busy then s
  else
    match refusal with
    | some st => s.raise st
    | none => State.runOps ops ((s.begin i).load ops)

/-- The guard (R180, R233): whatever is not INIT is refused while `initialized = 0`. -/
def State.guard (s : State) : Option Status := if s.initialized then none else some .notInitialized

/-- Go on with the operation in progress, from micro-operation `upc`. -/
def State.resume (s : State) : State := State.runOps (s.seq.drop s.upc) s

/-! ### Reset -/

/-- Reset (R36, R260 to R262): the configuration is latched, every element of the block gets its reset value, an operation
in progress ends without a status, no primitive is issued; OUT and the panel stay as they are. A primitive that was in flight
has no effect from then on, on OUT or as a latch event: the spec does not say whether it still takes effect (DESIGN CHOICE,
log 21). -/
def State.applyReset (s : State) : State :=
  { s with
    resetReq := false
    cfg := { s.cfg with pinmap := s.straps.pinmap, geom := s.straps.geom }
    initialized := false
    initState := .unpowered
    busy := false
    upc := 0
    seq := []
    timer := 0
    timerOn := false
    op := none
    inFlight := false
    ctrlSync := .unknown }

end Sys2Proof.Machine
end

