-- ==== Sys2Proof/Machine/DisplayCommands.lean ====
section
/-! DEFINITION. The eight DisplayCommands operations (spec/42_display_commands.md R180 to R191). -/

namespace Sys2Proof.Machine

/-- `Expand(CLEAR)` (R181). -/
def expandClear (c : Setup) : List MicroOp := clearSeq c

/-- CLEAR (R181). -/
def execClear (s : State) : Host.Outcome State Fault Refusal :=
  .next (s.operate .clear s.guard (expandClear s.cfg))

/-- `Expand(HOME)` (R182). -/
def expandHome (c : Setup) : List MicroOp := sendSettled c Config.lcdc.displayHome

/-- HOME (R182). -/
def execHome (s : State) : Host.Outcome State Fault Refusal :=
  .next (s.operate .home s.guard (expandHome s.cfg))

/-- The row and the column are in the geometry (R183). -/
def gotoInRange (g : Geometry) (row : BitVec 4) (column : BitVec 8) : Bool :=
  decide (row.toNat < g.rows ∧ column.toNat < g.columns)

/-- The address of a row and a column (R183, R188): a sum of natural numbers. -/
def gotoAddress (g : Geometry) (row : BitVec 4) (column : BitVec 8) : Nat := rowStartOf g row.toNat + column.toNat

/-- `Expand(GOTO(row, column))` (R183). -/
def expandGoto (c : Setup) (row : BitVec 4) (column : BitVec 8) : List MicroOp :=
  sendByte c .command (ddramByte (gotoAddress c.geom row column))

/-- The checks of GOTO in their order: the guard, then the range (R183, R229). -/
def gotoRefusal (row : BitVec 4) (column : BitVec 8) (s : State) : Option Status :=
  match s.guard with
  | some st => some st
  | none => if gotoInRange s.cfg.geom row column then none else some .outOfRange

/-- GOTO (R183). -/
def execGoto (row : BitVec 4) (column : BitVec 8) (s : State) : Host.Outcome State Fault Refusal :=
  .next (s.operate (.goto row column) (gotoRefusal row column s) (expandGoto s.cfg row column))

/-- `Expand(SETENTRY(i, s))` (R184). -/
def expandSetentry (c : Setup) (i sh : Bool) : List MicroOp := sendThenClear c (entryByte i sh)

/-- SETENTRY (R184). -/
def execSetentry (i sh : Bool) (s : State) : Host.Outcome State Fault Refusal :=
  .next (s.operate (.setentry i sh) s.guard (expandSetentry s.cfg i sh))

/-- `Expand(SETDISPLAY(d, c, b))` (R185). -/
def expandSetdisplay (c : Setup) (d cu b : Bool) : List MicroOp := sendThenClear c (displayByte d cu b)

/-- SETDISPLAY (R185). -/
def execSetdisplay (d cu b : Bool) (s : State) : Host.Outcome State Fault Refusal :=
  .next (s.operate (.setdisplay d cu b) s.guard (expandSetdisplay s.cfg d cu b))

/-- `Expand(SETMOVE(v, r))` (R186). -/
def expandSetmove (c : Setup) (v r : Bool) : List MicroOp := sendThenClear c (moveByte v r)

/-- SETMOVE (R186). -/
def execSetmove (v r : Bool) (s : State) : Host.Outcome State Fault Refusal :=
  .next (s.operate (.setmove v r) s.guard (expandSetmove s.cfg v r))

/-- `Expand(LOADGLYPHS(t))` (R187). -/
def expandLoadglyphs (c : Setup) (t : List Byte) : List MicroOp :=
  sendByte c .command (cgramByte 0) ++ sendData c t ++ addrReset c

/-- LOADGLYPHS (R187). -/
def execLoadglyphs (t : List Byte) (s : State) : Host.Outcome State Fault Refusal :=
  .next (s.operate (.loadglyphs t) s.guard (expandLoadglyphs s.cfg t))

/-- `Expand(WRITESTRING(text))` (R189). -/
def expandWritestring (c : Setup) (t : List Byte) : List MicroOp := sendData c t

/-- WRITESTRING (R189). -/
def execWritestring (t : List Byte) (s : State) : Host.Outcome State Fault Refusal :=
  .next (s.operate (.writestring t) s.guard (expandWritestring s.cfg t))

end Sys2Proof.Machine
end

