-- ==== Sys2Proof/Machine/InitSequencer.lean ====
section
/-! DEFINITION. INIT (spec/41_init_sequencer.md R150 to R162). -/

namespace Sys2Proof.Machine

/-- The milestone write `ST(init_state, m)`. -/
def reach (m : InitState) : MicroOp := .st (.initState m)

/-- One bring-up pulse (R154): a lone nibble, EN high for `T_EN`, then its own wait. -/
def bringUpPulse (c : Setup) (n : Nibble) (wait : Nat) : List MicroOp :=
  sendNibble c.pinmap .command n c.timing.tEn wait

/-- ForcedIdle (R153): the idle word and the power-on wait. -/
def forceIdle (c : Setup) : List MicroOp := [.port (.wb 0x00), reach .forcedIdle, .dly c.timing.tPowerOn]

/-- The four bring-up pulses and their milestones (R102, R154). -/
def bringUp (c : Setup) : List MicroOp :=
  bringUpPulse c 0x3 c.timing.tInit1 ++ [reach .eightBitPulse1] ++
  bringUpPulse c 0x3 c.timing.tInit2 ++ [reach .eightBitPulse2] ++
  bringUpPulse c 0x3 c.timing.tInit3 ++ [reach .eightBitPulse3] ++
  bringUpPulse c 0x2 c.timing.tInit4

/-- The seven bytes that follow (R155, R156). -/
def applySettings (c : Setup) (o : InitOptions) : List MicroOp :=
  sendByte c .command (functionByte o.dataWidth o.lineCount o.font) ++ [reach .functionLocked] ++
  sendByte c .command (displayByte false false false) ++ [reach .displayOff] ++
  sendByte c .command (entryByte o.autoIncrement o.autoShift) ++ [reach .entrySet] ++
  sendByte c .command (displayByte o.displayOn o.cursorOn o.blinkOn) ++
  sendByte c .command (moveByte o.moveMode o.moveDirection) ++ [reach .displayConfigured] ++
  addrReset c ++
  clearSeq c ++ [reach .cleared]

/-- `Expand(INIT(...))` (R152, R157). -/
def expandInit (c : Setup) (o : InitOptions) : List MicroOp :=
  [.st (.initialized false), reach .unpowered] ++
  forceIdle c ++ bringUp c ++ applySettings c o ++
  [reach .ready, .st (.initialized true)]

/-- INIT (R152): admitted whether `initialized` is 0 or 1. -/
def execInit (o : InitOptions) (s : State) : Host.Outcome State Fault Refusal :=
  .next (s.operate (.init o) none (expandInit s.cfg o))

end Sys2Proof.Machine
end

