-- ==== Sys2Proof/Machine/LcdUnits.lean ====
section
/-! DEFINITION. The LCD8 and NIB4 rows: one command byte or one bring-up nibble that a host hands to the NibbleTransmitter
(spec/00_scope.md R3, spec/40_nibble_transmitter.md R122, R124). Like every operation but INIT it is admitted only once INIT has
completed (spec/60_exceptions.md R233, spec/70_reset_and_hazards.md R262; log 11, 12). -/

namespace Sys2Proof.Machine

/-- `LCD.DISPLAY_CLEAR` (R100): sent with its settle (R191, R237). -/
def expandLcdDisplayClear (c : Setup) : List MicroOp := sendSettled c Config.lcdc.displayClear

/-- Transmit `LCD.DISPLAY_CLEAR`. -/
def execLcdDisplayClear (s : State) : Host.Outcome State Fault Refusal :=
  .next (s.operate .lcdDisplayClear s.guard (expandLcdDisplayClear s.cfg))

/-- `LCD.DISPLAY_HOME` (R100): "same settle rule" (R182). -/
def expandLcdDisplayHome (c : Setup) : List MicroOp := sendSettled c Config.lcdc.displayHome

/-- Transmit `LCD.DISPLAY_HOME`. -/
def execLcdDisplayHome (s : State) : Host.Outcome State Fault Refusal :=
  .next (s.operate .lcdDisplayHome s.guard (expandLcdDisplayHome s.cfg))

/-- `LCD.ENTRY_MODE` (R101). -/
def expandLcdEntryMode (c : Setup) (i sh : Bool) : List MicroOp := sendByte c .command (entryByte i sh)

/-- Transmit `LCD.ENTRY_MODE`. -/
def execLcdEntryMode (i sh : Bool) (s : State) : Host.Outcome State Fault Refusal :=
  .next (s.operate (.lcdEntryMode i sh) s.guard (expandLcdEntryMode s.cfg i sh))

/-- `LCD.DISPLAY_MODE` (R101). -/
def expandLcdDisplayMode (c : Setup) (d cu b : Bool) : List MicroOp := sendByte c .command (displayByte d cu b)

/-- Transmit `LCD.DISPLAY_MODE`. -/
def execLcdDisplayMode (d cu b : Bool) (s : State) : Host.Outcome State Fault Refusal :=
  .next (s.operate (.lcdDisplayMode d cu b) s.guard (expandLcdDisplayMode s.cfg d cu b))

/-- `LCD.MOVE_MODE` (R101). -/
def expandLcdMoveMode (c : Setup) (v r : Bool) : List MicroOp := sendByte c .command (moveByte v r)

/-- Transmit `LCD.MOVE_MODE`. -/
def execLcdMoveMode (v r : Bool) (s : State) : Host.Outcome State Fault Refusal :=
  .next (s.operate (.lcdMoveMode v r) s.guard (expandLcdMoveMode s.cfg v r))

/-- `LCD.FUNCTION_SET` (R101). -/
def expandLcdFunctionSet (c : Setup) (w l f : Bool) : List MicroOp := sendByte c .command (functionByte w l f)

/-- Transmit `LCD.FUNCTION_SET`. -/
def execLcdFunctionSet (w l f : Bool) (s : State) : Host.Outcome State Fault Refusal :=
  .next (s.operate (.lcdFunctionSet w l f) s.guard (expandLcdFunctionSet s.cfg w l f))

/-- `LCD.CGRAM_ADDR` (R65, R101). -/
def expandLcdCgramAddr (c : Setup) (a : BitVec 6) : List MicroOp := sendByte c .command (cgramByte a)

/-- Transmit `LCD.CGRAM_ADDR`. -/
def execLcdCgramAddr (a : BitVec 6) (s : State) : Host.Outcome State Fault Refusal :=
  .next (s.operate (.lcdCgramAddr a) s.guard (expandLcdCgramAddr s.cfg a))

/-- `LCD.DDRAM_ADDR` (R64, R99). -/
def expandLcdDdramAddr (c : Setup) (a : BitVec 7) : List MicroOp := sendByte c .command (ddramByte a.toNat)

/-- Transmit `LCD.DDRAM_ADDR`. -/
def execLcdDdramAddr (a : BitVec 7) (s : State) : Host.Outcome State Fault Refusal :=
  .next (s.operate (.lcdDdramAddr a) s.guard (expandLcdDdramAddr s.cfg a))

/-- `NIB.EIGHTBIT` (R102, R154): by itself it has the wait of the first of INIT's three (log 12). -/
def expandNibEightbit (c : Setup) : List MicroOp := bringUpPulse c 0x3 c.timing.tInit1

/-- Transmit `NIB.EIGHTBIT`. -/
def execNibEightbit (s : State) : Host.Outcome State Fault Refusal :=
  .next (s.operate .nibEightbit s.guard (expandNibEightbit s.cfg))

/-- `NIB.FOURBIT` (R102, R154). -/
def expandNibFourbit (c : Setup) : List MicroOp := bringUpPulse c 0x2 c.timing.tInit4

/-- Transmit `NIB.FOURBIT`. -/
def execNibFourbit (s : State) : Host.Outcome State Fault Refusal :=
  .next (s.operate .nibFourbit s.guard (expandNibFourbit s.cfg))

end Sys2Proof.Machine
end

