-- ==== Sys2Proof/Machine/NibbleTransmitter.lean ====
section
/-! DEFINITION. SENDBYTE (spec/40_nibble_transmitter.md R127). -/

namespace Sys2Proof.Machine

/-- `Expand(SENDBYTE(payload, mode))` (R127). -/
def expandSendbyte (c : Setup) (payload : Byte) (mode : Mode) : List MicroOp := sendByte c mode payload

/-- SENDBYTE (R127). -/
def execSendbyte (payload : Byte) (mode : Mode) (s : State) : Host.Outcome State Fault Refusal :=
  .next (s.operate (.sendbyte payload mode) s.guard (expandSendbyte s.cfg payload mode))

end Sys2Proof.Machine
end

