-- ==== Sys2Proof/Machine/Dispatch.lean ====
section
/-! DEFINITION. What each instruction does: one arm per row of the opcode table. -/

namespace Sys2Proof.Machine

def exec (i : Instr) (s : State) : Host.Outcome State Fault Refusal :=
  match i with
  -- the operations (CW16)
  | .sendbyte payload mode => Sys2Proof.Machine.execSendbyte payload mode s
  | .init o => Sys2Proof.Machine.execInit o s
  | .clear => Sys2Proof.Machine.execClear s
  | .home => Sys2Proof.Machine.execHome s
  | .goto row column => Sys2Proof.Machine.execGoto row column s
  | .setentry a b => Sys2Proof.Machine.execSetentry a b s
  | .setdisplay d c b => Sys2Proof.Machine.execSetdisplay d c b s
  | .setmove v r => Sys2Proof.Machine.execSetmove v r s
  | .loadglyphs t => Sys2Proof.Machine.execLoadglyphs t s
  | .writestring t => Sys2Proof.Machine.execWritestring t s
  -- the command bytes (LCD8)
  | .lcdDisplayClear => Sys2Proof.Machine.execLcdDisplayClear s
  | .lcdDisplayHome => Sys2Proof.Machine.execLcdDisplayHome s
  | .lcdEntryMode a b => Sys2Proof.Machine.execLcdEntryMode a b s
  | .lcdDisplayMode d c b => Sys2Proof.Machine.execLcdDisplayMode d c b s
  | .lcdMoveMode v r => Sys2Proof.Machine.execLcdMoveMode v r s
  | .lcdFunctionSet w l f => Sys2Proof.Machine.execLcdFunctionSet w l f s
  | .lcdCgramAddr a => Sys2Proof.Machine.execLcdCgramAddr a s
  | .lcdDdramAddr a => Sys2Proof.Machine.execLcdDdramAddr a s
  -- the bring-up nibbles (NIB4)
  | .nibEightbit => Sys2Proof.Machine.execNibEightbit s
  | .nibFourbit => Sys2Proof.Machine.execNibFourbit s

end Sys2Proof.Machine
end

