-- ==== Sys2Proof/Machine/Fetch.lean ====
section
/-! DEFINITION. What the block does next: reset, the operation in progress, the next request, or nothing
(spec/30_encoding.md R80, R91; spec/70_reset_and_hazards.md R260). -/

namespace Sys2Proof.Machine

/-- What a step is to do. -/
inductive Fetched where
  /-- Run an instruction in the state in which its request has been taken. -/
  | run (i : Instr) (s : State)
  /-- The step is done. -/
  | settled (s : State)
  /-- The step has no meaning. -/
  | refuse (r : Refusal)

/-- The words of a request are taken up to the end of the frame; what follows stays the host's next frame (log 9). -/
def State.takeRequest (r : Request) (others : List Request) (rest : List CmdWord) (s : State) : State :=
  { s with issuer := r.host, pending := if rest = [] then others else ⟨r.host, .frame rest⟩ :: others }

/-- A frame with a reserved encoding (R91, R225): `IllegalCommand`, nothing else. -/
def State.refuseFrame (s : State) : State := s.raise .illegalCommand

/-- The next request, if the block is idle (R80). A frame whose words are not all there waits (log 9). -/
def State.fetchRequest (s : State) : Fetched :=
  match s.pending with
  | [] => .settled s
  | r :: others =>
    match decode r.offer with
    | .instr i rest => .run i (s.takeRequest r others rest)
    | .reserved _ rest => .settled (s.takeRequest r others rest).refuseFrame
    | .incomplete => .settled s
    | .noByteRow => .refuse .noSuchCommandByte
    | .noNibbleRow => .refuse .noSuchNibble

/-- Reset comes first (R260), then the operation in progress, then the next request; with none the block waits. -/
def State.fetch (s : State) : Fetched :=
  if s.resetReq then
    (if s.straps.Legal then .settled s.applyReset else .refuse .illegalConfiguration)
  else if s.busy then .settled s.resume
  else s.fetchRequest

/-- Put a table word where the next step fetches (log 24). -/
def State.offerTableWord (s : State) (nbits w : Nat) : State :=
  { s with resetReq := false, busy := false, pending := ⟨0, tableOffer nbits w⟩ :: s.pending }

end Sys2Proof.Machine
end

