-- ==== Sys2Proof/Machine/Step.lean ====
section
/-! DEFINITION. One step of the machine: one operation from its acceptance to its completion, to a primitive that has
not answered, or to a pause; or the rest of one, or reset (log 1, 2). -/

namespace Sys2Proof.Machine

/-- One step. -/
def step (s : State) : Host.Outcome State Fault Refusal :=
  match s.fetch with
  | .run i t => exec i t
  | .settled t => .next t
  | .refuse r => .refused r

/-- `s` with the instruction whose bits are `w` offered as the next request, the block idle (log 24). -/
def State.withFetchWord (s : State) (nbits w : Nat) : State := s.offerTableWord nbits w

end Sys2Proof.Machine
end

