-- ==== Sys2Proof/Machine/Expand.lean ====
section
/-! DEFINITION. `Expand` and the admission checks of all instructions in one place (spec/40_nibble_transmitter.md R120,
spec/60_exceptions.md R229), each arm the one its meaning uses; statements about every instruction are made with them. -/

namespace Sys2Proof.Machine

/-- `Expand(op)` (R120): a pure function of the instruction and the configuration. -/
def expand (c : Setup) (i : Instr) : List MicroOp :=
  match i with
  | .sendbyte payload mode => expandSendbyte c payload mode
  | .init o => expandInit c o
  | .clear => expandClear c
  | .home => expandHome c
  | .goto row column => expandGoto c row column
  | .setentry a b => expandSetentry c a b
  | .setdisplay a b d => expandSetdisplay c a b d
  | .setmove a b => expandSetmove c a b
  | .loadglyphs t => expandLoadglyphs c t
  | .writestring t => expandWritestring c t
  | .lcdDisplayClear => expandLcdDisplayClear c
  | .lcdDisplayHome => expandLcdDisplayHome c
  | .lcdEntryMode a b => expandLcdEntryMode c a b
  | .lcdDisplayMode a b d => expandLcdDisplayMode c a b d
  | .lcdMoveMode a b => expandLcdMoveMode c a b
  | .lcdFunctionSet a b d => expandLcdFunctionSet c a b d
  | .lcdCgramAddr a => expandLcdCgramAddr c a
  | .lcdDdramAddr a => expandLcdDdramAddr c a
  | .nibEightbit => expandNibEightbit c
  | .nibFourbit => expandNibFourbit c

/-- The instruction is admitted only after INIT (R180, R233): every row but INIT. -/
def isGuarded (i : Instr) : Bool := !isInit i

/-- The status with which an instruction is refused, if it is (R180, R183, R229). -/
def refusalOf (i : Instr) (s : State) : Option Status :=
  match i with
  | .init _ => none
  | .goto row column => gotoRefusal row column s
  | .sendbyte _ _ | .clear | .home | .setentry _ _ | .setdisplay _ _ _ | .setmove _ _ | .loadglyphs _
  | .writestring _ | .lcdDisplayClear | .lcdDisplayHome | .lcdEntryMode _ _ | .lcdDisplayMode _ _ _ | .lcdMoveMode _ _
  | .lcdFunctionSet _ _ _ | .lcdCgramAddr _ | .lcdDdramAddr _ | .nibEightbit | .nibFourbit => s.guard

end Sys2Proof.Machine
end

