-- ==== Sys2Proof/Safety.lean ====
section
/-! DEFINITION. The terms in which claims about the machine are stated: idle states, the port's answers, what a list of
micro-operations does when every primitive answers `ok`, how an operation leaves the rest of the state, the invariants, and what
hosts must respect (spec/70_reset_and_hazards.md R263, R270 to R281). -/

namespace Sys2Proof.Machine

/-! ### Micro-operation lists -/

/-- A port primitive: one of `WB`, `SB`, `CB` (R13). -/
def MicroOp.isPort (m : MicroOp) : Bool :=
  match m with
  | .port _ => true
  | .dly _ => false
  | .st _ => false

/-- A state write `ST` (R13). -/
def MicroOp.isState (m : MicroOp) : Bool :=
  match m with
  | .st _ => true
  | .port _ => false
  | .dly _ => false

/-- How many port primitives a list has. -/
def portCount (ops : List MicroOp) : Nat := ops.countP MicroOp.isPort

/-- The counts of R290: `WB`, `SB`, `CB` and `DLY`. -/
def wbCount (ops : List MicroOp) : Nat := ops.countP fun m => match m with | .port (.wb _) => true | .port (.sb _) => false | .port (.cb _) => false | .dly _ => false | .st _ => false
def sbCount (ops : List MicroOp) : Nat := ops.countP fun m => match m with | .port (.sb _) => true | .port (.wb _) => false | .port (.cb _) => false | .dly _ => false | .st _ => false
def cbCount (ops : List MicroOp) : Nat := ops.countP fun m => match m with | .port (.cb _) => true | .port (.wb _) => false | .port (.sb _) => false | .dly _ => false | .st _ => false
def dlyCount (ops : List MicroOp) : Nat := ops.countP fun m => match m with | .dly _ => true | .port _ => false | .st _ => false

/-- The sum of the waits: the least duration of R290, in microseconds. -/
def leastWait (ops : List MicroOp) : Nat :=
  match ops with
  | [] => 0
  | .dly d :: ms => d + leastWait ms
  | .port _ :: ms => leastWait ms
  | .st _ :: ms => leastWait ms

/-- The port trace of a list (R13): its entries without the state writes. -/
def traceOf (reg : Nat) (ops : List MicroOp) : List PortEvent :=
  match ops with
  | [] => []
  | .port p :: ms => .call reg p :: traceOf reg ms
  | .dly d :: ms => .wait d :: traceOf reg ms
  | .st _ :: ms => traceOf reg ms

/-- The part of a list that is started when its primitive number `k` (from 0) is the one that faults (R126, R158). -/
def cutAt (k : Nat) (ops : List MicroOp) : List MicroOp :=
  match ops with
  | [] => []
  | .port p :: ms =>
    match k with
    | 0 => [.port p]
    | j + 1 => .port p :: cutAt j ms
  | .dly d :: ms => .dly d :: cutAt k ms
  | .st w :: ms => .st w :: cutAt k ms

/-! ### Port traces in words -/

/-- The ten entries of `SendByte(mode, b)` as R124 writes them out, on OUT_REG. -/
def byteEvents (c : Setup) (mode : Mode) (b : Byte) : List PortEvent :=
  let e := pinBit c.pinmap.en
  let call := PortEvent.call c.outReg
  let t := PortEvent.wait c.timing.tEn
  [call (.wb (outputWord c.pinmap mode (highNibble b))), call (.sb e), t, call (.cb e), t,
   call (.wb (outputWord c.pinmap mode (lowNibble b))), call (.sb e), t, call (.cb e), t]

/-- The five entries of a lone bring-up nibble as R154 writes them out. -/
def pulseEvents (c : Setup) (n : Nibble) (wait : Nat) : List PortEvent :=
  let e := pinBit c.pinmap.en
  let call := PortEvent.call c.outReg
  [call (.wb (outputWord c.pinmap .command n)), call (.sb e), .wait c.timing.tEn, call (.cb e), .wait wait]

/-- The two pairs the controller latches for one byte (R128). -/
def byteLatches (mode : Mode) (b : Byte) : List Latch :=
  [⟨Mode.rsLevel mode, highNibble b⟩, ⟨Mode.rsLevel mode, lowNibble b⟩]

/-- The pair it latches for one lone nibble (R154: RS low). -/
def pulseLatch (n : Nibble) : Latch := ⟨false, n⟩

/-- The whole port trace of INIT (V30 for any configuration and options). -/
def initEvents (c : Setup) (o : InitOptions) : List PortEvent :=
  [.call c.outReg (.wb 0x00), .wait c.timing.tPowerOn] ++
  pulseEvents c 0x3 c.timing.tInit1 ++ pulseEvents c 0x3 c.timing.tInit2 ++ pulseEvents c 0x3 c.timing.tInit3 ++
  pulseEvents c 0x2 c.timing.tInit4 ++
  byteEvents c .command (functionByte o.dataWidth o.lineCount o.font) ++
  byteEvents c .command 0x08 ++
  byteEvents c .command (entryByte o.autoIncrement o.autoShift) ++
  byteEvents c .command (displayByte o.displayOn o.cursorOn o.blinkOn) ++
  byteEvents c .command (moveByte o.moveMode o.moveDirection) ++
  byteEvents c .command (0x80 ||| BitVec.ofNat 8 (rowStartOf c.geom 0)) ++
  byteEvents c .command 0x01 ++ [.wait c.timing.tClear]

/-- The latched stream of INIT (R162): `3, 3, 3, 2` and the seven bytes. -/
def initLatches (c : Setup) (o : InitOptions) : List Latch :=
  [pulseLatch 0x3, pulseLatch 0x3, pulseLatch 0x3, pulseLatch 0x2] ++
  byteLatches .command (functionByte o.dataWidth o.lineCount o.font) ++
  byteLatches .command 0x08 ++
  byteLatches .command (entryByte o.autoIncrement o.autoShift) ++
  byteLatches .command (displayByte o.displayOn o.cursorOn o.blinkOn) ++
  byteLatches .command (moveByte o.moveMode o.moveDirection) ++
  byteLatches .command (0x80 ||| BitVec.ofNat 8 (rowStartOf c.geom 0)) ++
  byteLatches .command 0x01

/-! ### Reserved frames -/

/-- A reserved encoding as R91 lists them: `cw` is the command word, `dws` are its data words. -/
abbrev ReservedFrame (cw : CmdWord) (dws : List CmdWord) : Prop :=
  opField cw = 0x0 ∨ 0xB ≤ opField cw ∨ (opField cw = 0x1 ∧ cw.extractLsb' 9 3 ≠ 0) ∨
    (opField cw = 0x2 ∧ cw.extractLsb' 10 2 ≠ 0) ∨
    ((opField cw = 0x3 ∨ opField cw = 0x4) ∧ cw.extractLsb' 0 12 ≠ 0) ∨
    ((opField cw = 0x6 ∨ opField cw = 0x8) ∧ cw.extractLsb' 2 10 ≠ 0) ∨
    (opField cw = 0x7 ∧ cw.extractLsb' 3 9 ≠ 0) ∨
    ((opField cw = 0x9 ∨ opField cw = 0xA) ∧ ∃ dw ∈ dws, dw.extractLsb' 8 8 ≠ 0)

/-! ### States before and after an operation -/

/-- Nothing stops a step in the middle of an operation but the port. -/
abbrev NoPause (s : State) : Prop := s.pauses = []

/-- The next `n` answers of the port are listed and are all `ok`, and nothing stops the step meanwhile. -/
abbrev PortOk (n : Nat) (s : State) : Prop := s.answers.take n = List.replicate n .ok ∧ NoPause s

/-- The next answers are `n` times `ok` and then `a`, and nothing else stops the step. -/
abbrev PortThen (n : Nat) (a : PortAnswer) (s : State) : Prop :=
  s.answers.take (n + 1) = List.replicate n .ok ++ [a] ∧ NoPause s

/-- EN is low at the expander (R35). -/
abbrev EnLow (s : State) : Prop := pinLevel s.out s.cfg.pinmap.en = false

/-- What no operation changes, whatever stops it: the configuration inputs, the configuration, the queue of requests and
its owner. -/
abbrev WorldKept (s t : State) : Prop :=
  t.straps = s.straps ∧ t.cfg = s.cfg ∧ t.pending = s.pending ∧ t.issuer = s.issuer

/-- And the reset input, where no pause brings a reset. -/
abbrev SurroundingsKept (s t : State) : Prop := WorldKept s t ∧ t.resetReq = s.resetReq

/-- The block's own flag and milestone are as they were. -/
abbrev FlagsKept (s t : State) : Prop := t.initialized = s.initialized ∧ t.initState = s.initState

/-- The stray latch event of R128 and R262: if EN was high, the first `WB` of an operation makes the controller latch the
pair that this word shows. -/
def strayLatch (s : State) (e : Latch) : List Latch := if pinLevel s.out s.cfg.pinmap.en then [e] else []

/-- An operation ran to its end with status `Ok`, every one of its `n` primitives answering `ok`: these entries were added
to the port trace and these latch events took place; it took at least `us` microseconds; OUT holds `out`. -/
abbrev RanOk (s t : State) (n : Nat) (events : List PortEvent) (latches : List Latch) (us : Nat) (out : Byte) : Prop :=
  t.trace = s.trace ++ events ∧ t.latched = s.latched ++ latches ∧ s.elapsed + us ≤ t.elapsed ∧ t.out = out ∧
    t.replies = s.replies ++ [⟨s.issuer, .ok⟩] ∧ t.answers = s.answers.drop n ∧ t.draws = s.draws + n ∧
    t.busy = false ∧ t.inFlight = false ∧ SurroundingsKept s t

/-- An operation was refused with a status (R222, R223, R225): the status is returned and nothing else changes. -/
abbrev RefusedWith (st : Status) (s t : State) : Prop :=
  t = { s with replies := s.replies ++ [⟨s.issuer, st⟩] }

/-! ### The panel -/

/-- The controller is in step with the block: 4-bit bus, the next nibble a high one, not busy, EN low (R34, R60). -/
abbrev Framed (s : State) : Prop :=
  s.cfg.pinmap.Legal ∧ EnLow s ∧ s.lcd.regs.bus = .four ∧ s.lcd.regs.half = none ∧ s.lcd.owed = 0

/-- Whenever `ctrl_sync` says so, the controller is in step. -/
abbrev PanelTracked (s : State) : Prop := s.ctrlSync = .inSync → Framed s

/-- The controller `l` ends in step if the list is performed from OUT at `out` with every primitive answering `ok`, whatever
the values are that the spec leaves open (`k` indexes them at each latch event). -/
def EndsInStep (c : Setup) (out : Byte) (l : Lcd) (ops : List MicroOp) : Prop :=
  match ops with
  | [] => pinLevel out c.pinmap.en = false ∧ l.regs.bus = .four ∧ l.regs.half = none ∧ l.owed = 0
  | .dly d :: ms => EndsInStep c out (l.rest (Timing.waited c.timing d)) ms
  | .st _ :: ms => EndsInStep c out l ms
  | .port p :: ms =>
    let v := p.result out
    if pinLevel out c.pinmap.en && !pinLevel v c.pinmap.en then
      ∀ k, EndsInStep c v (l.latch k c.timing.tClear (panelLatch c.pinmap v)) ms
    else EndsInStep c v l ms

/-- The hold after a pulse is no shorter than the settle after clear and home, as with the source's 5000 and 1600 (C8): then
even a clear sent by SENDBYTE is over before the next byte (R278). -/
abbrev HoldCoversSettle (s : State) : Prop := s.cfg.timing.tClear ≤ s.cfg.timing.tEn

/-! ### Invariants -/

/-- `initialized = 1` if and only if `init_state` is Ready (R28). -/
abbrev FlagMatches (s : State) : Prop := s.initialized = true ↔ s.initState = .ready

/-- R28, with what it needs of a state in mid-operation: an INIT in progress has its own list, has cleared the flag with its
first state write and sets milestone and flag with its last two; any other operation in progress has no state write. -/
def ReadyInv (s : State) : Prop :=
  match s.busy, s.op with
  | false, _ => FlagMatches s
  | true, some (.init o) =>
    s.seq = expandInit s.cfg o ∧ s.upc ≤ s.seq.length ∧ (0 < s.upc → (s.initialized = true ↔ s.upc = s.seq.length)) ∧
      (s.seq.length ≤ s.upc + 1 → s.initState = .ready)
  | true, some _ => FlagMatches s ∧ s.seq.all (fun m => !m.isState) = true
  | true, none => False

/-- The controller's memories are in their canonical form and inside their address spaces (R64, R65). -/
abbrev MemoryInv (s : State) : Prop :=
  Memory.wf s.lcd.ddram ∧ Memory.wf s.lcd.cgram ∧ (∀ c ∈ s.lcd.ddram, c.1 < 128) ∧ (∀ c ∈ s.lcd.cgram, c.1 < 64)

/-- A primitive is in flight, or a wait is running, only while an operation is in progress, and then it is the
micro-operation `upc` points at and the last entry of the port trace (R30, R32, R55). -/
def FlightInv (s : State) : Prop :=
  (s.busy = true → s.upc ≤ s.seq.length) ∧
    (s.inFlight = true →
      s.busy = true ∧ ∃ p, s.seq[s.upc]? = some (.port p) ∧ s.trace.getLast? = some (.call s.cfg.outReg p)) ∧
    (s.timerOn = true →
      s.busy = true ∧ ∃ d, s.seq[s.upc]? = some (.dly d) ∧ s.trace.getLast? = some (.wait d) ∧
        s.timer ≤ Timing.waited s.cfg.timing d)

/-- What of the operation in progress has not been performed. -/
def State.rest (s : State) : List MicroOp := s.seq.drop s.upc

/-- The first micro-operation of the rest has started, so the port trace has it already. -/
def State.begun (s : State) : Bool := s.inFlight || s.timerOn

/-- The operation in progress is to leave the panel in step: an INIT that does not lose it, or any other operation that does
not while `ctrl_sync` says that it is in step (R34, R161, R271). -/
def OwesStep (s : State) : Prop :=
  match s.op with
  | some i => losesPanel i = false ∧ (isInit i = true ∨ s.ctrlSync = .inSync)
  | none => s.ctrlSync = .inSync

/-- The controller is in step whenever `ctrl_sync` says so (R34, R60, R128); in the middle of an operation that is to leave it
in step, the rest of the operation brings it there. -/
def PanelInv (s : State) : Prop :=
  match s.busy with
  | false => PanelTracked s
  | true =>
    OwesStep s →
      if s.timerOn then EndsInStep s.cfg s.out (s.lcd.rest s.timer) s.rest.tail else EndsInStep s.cfg s.out s.lcd s.rest

/-- What the block puts on the port is what R51, R53, R54 and R95 allow: only OUT_REG, only the EN bit in `SB` and `CB`, EN
low in every written word. -/
def PortEventLegal (c : Setup) (e : PortEvent) : Prop :=
  match e with
  | .call reg (.wb v) => reg = c.outReg ∧ pinLevel v c.pinmap.en = false
  | .call reg (.sb m) => reg = c.outReg ∧ m = pinBit c.pinmap.en
  | .call reg (.cb m) => reg = c.outReg ∧ m = pinBit c.pinmap.en
  | .wait _ => True

end Sys2Proof.Machine
end

