-- ==== Sys2Proof/Certificates/Slice0/Obligations.lean ====
section
/-! DEFINITION. The statements for the provers. Each docstring names the rule of spec/ it follows, or the log entry where it
rests on the model's own choice. -/

open Sys2Proof Sys2Proof.Machine

/-! ### Encodings -/

/-- Words written out from the layouts of spec/30_encoding.md R83 to R90, R99 to R102 decode to what they stand for. -/
def Obligations.WrittenWordsDecode : Prop :=
  decode (.frame [0b0001000101000001]) = .instr (.sendbyte 0x41 .data) [] ∧
  decode (.frame [0b0010000101001000]) =
    .instr (.init ⟨false, true, false, true, false, false, true, false, false, false⟩) [] ∧
  decode (.frame [0b0011000000000000]) = .instr .clear [] ∧
  decode (.frame [0b0100000000000000]) = .instr .home [] ∧
  decode (.frame [0b0101000100000011]) = .instr (.goto 1 3) [] ∧
  decode (.frame [0b0110000000000010]) = .instr (.setentry true false) [] ∧
  decode (.frame [0b0111000000000110]) = .instr (.setdisplay true true false) [] ∧
  decode (.frame [0b1000000000000001]) = .instr (.setmove false true) [] ∧
  decode (.frame [0b1001000000000010, 0x000E, 0x001B]) = .instr (.loadglyphs [0x0E, 0x1B]) [] ∧
  decode (.frame [0b1010000000000001, 0x0048, 0x3000]) = .instr (.writestring [0x48]) [0x3000] ∧
  decode (.byte 0b00011000) = .instr (.lcdMoveMode true false) [] ∧
  decode (.byte 0b11000011) = .instr (.lcdDdramAddr 0x43) [] ∧
  decode (.nibble 0b0011) = .instr .nibEightbit [] ∧
  decode (.nibble 0b0010) = .instr .nibFourbit []

/-- Every well-formed instruction decodes from its encoding, also with the words of a next frame behind it (R80 to R90). -/
def Obligations.DecodeOfEncode : Prop :=
  ∀ i : Instr, i.wellFormed = true →
    decode (encode i) = .instr i [] ∧
      ∀ words rest, encode i = .frame words → decode (.frame (words ++ rest)) = .instr i rest

/-- Every offer that decodes is the encoding of a well-formed instruction, so each word has one meaning. -/
def Obligations.EncodeOfDecode : Prop :=
  ∀ (x : Offered) (i : Instr) (rest : List CmdWord), decode x = .instr i rest →
    i.wellFormed = true ∧
      ((∃ words, encode i = .frame words ∧ x = .frame (words ++ rest)) ∨
       (rest = [] ∧ encode i = x ∧ ∀ words, x ≠ .frame words))

/-- R91, R225, and for the second clause R82: a frame with a reserved encoding completes with `IllegalCommand` and nothing of
the block changes; a frame without one is an instruction. That the words after the frame stay at the head of the queue as that
host's next frame is the model's choice (log 9; the queue: log 10). -/
def Obligations.ReservedFramesRefused : Prop :=
  ∀ (s : State) (host : Nat) (others : List Request) (cw : CmdWord) (dws rest : List CmdWord),
    s.resetReq = false → s.busy = false → dws.length = dataWordCount cw →
    s.pending = ⟨host, .frame (cw :: (dws ++ rest))⟩ :: others →
    (ReservedFrame cw dws →
      step s = .next { s with
        issuer := host
        pending := if rest = [] then others else ⟨host, .frame rest⟩ :: others
        replies := s.replies ++ [⟨host, .illegalCommand⟩] }) ∧
    (¬ ReservedFrame cw dws → ∃ i, decode (.frame (cw :: (dws ++ rest))) = .instr i rest)

/-- R94: bit `k` of `Word(mode, n)` is set if and only if `k` is RS's bit and the mode is Data, or `k` is the bit of a data
line whose nibble bit is 1. -/
def Obligations.OutputWordBits : Prop :=
  ∀ (p : PinMap) (mode : Mode) (n : Nibble) (k : Fin 8),
    pinLevel (outputWord p mode n) k = true ↔
      (k = p.rs ∧ mode = .data) ∨ (k = p.db0 ∧ n.getLsbD 0 = true) ∨ (k = p.db1 ∧ n.getLsbD 1 = true) ∨
        (k = p.db2 ∧ n.getLsbD 2 = true) ∨ (k = p.db3 ∧ n.getLsbD 3 = true)

/-- R95 and R35: for a legal pin map EN and the unmapped bits are low in every word, the panel reads back the mode and the
nibble, and the word loses nothing. -/
def Obligations.OutputWordFaithful : Prop :=
  ∀ p : PinMap, p.Legal →
    (∀ mode n, pinLevel (outputWord p mode n) p.en = false) ∧
    (∀ mode n k, k ∉ p.indices → pinLevel (outputWord p mode n) k = false) ∧
    (∀ mode n, panelLatch p (outputWord p mode n) = ⟨decide (mode = .data), n⟩) ∧
    (∀ m₁ n₁ m₂ n₂, outputWord p m₁ n₁ = outputWord p m₂ n₂ → m₁ = m₂ ∧ n₁ = n₂) ∧
    outputWord p .command 0x0 = 0x00

/-- R101: the composed bytes, where OR and addition give the same byte. -/
def Obligations.ComposedBytes : Prop :=
  (∀ i s : Bool, entryByte i s = 0x04 ||| (if i then 0x02 else 0) ||| (if s then 0x01 else 0) ∧
    entryByte i s = 0x04 + (if i then 0x02 else 0) + (if s then 0x01 else 0)) ∧
  (∀ d c b : Bool, displayByte d c b = 0x08 ||| (if d then 0x04 else 0) ||| (if c then 0x02 else 0) ||| (if b then 0x01 else 0) ∧
    displayByte d c b = 0x08 + (if d then 0x04 else 0) + (if c then 0x02 else 0) + (if b then 0x01 else 0)) ∧
  (∀ v r : Bool, moveByte v r = 0x10 ||| (if v then 0x08 else 0) ||| (if r then 0x04 else 0) ∧
    moveByte v r = 0x10 + (if v then 0x08 else 0) + (if r then 0x04 else 0)) ∧
  (∀ w l f : Bool, functionByte w l f = 0x20 ||| (if w then 0x10 else 0) ||| (if l then 0x08 else 0) ||| (if f then 0x04 else 0) ∧
    functionByte w l f = 0x20 + (if w then 0x10 else 0) + (if l then 0x08 else 0) + (if f then 0x04 else 0)) ∧
  (∀ a : BitVec 7, ddramByte a.toNat = 0x80 ||| a.setWidth 8 ∧ ddramByte a.toNat = 0x80 + a.setWidth 8) ∧
  (∀ a : BitVec 6, cgramByte a = 0x40 ||| a.setWidth 8 ∧ cgramByte a = 0x40 + a.setWidth 8)

/-- R97: a payload is its high nibble times 16 plus its low nibble; for 0x41 these are 0b0100 and 0b0001. -/
def Obligations.NibbleSplit : Prop :=
  (∀ b : Byte, b.toNat = (highNibble b).toNat * 16 + (lowNibble b).toNat) ∧
    highNibble 0x41 = 0b0100 ∧ lowNibble 0x41 = 0b0001

/-! ### The ExpanderPort -/

/-- R52 to R54: what a primitive that answers `ok` leaves in OUT. -/
def Obligations.PrimitiveEffects : Prop :=
  ∀ (s : State) (v m : Byte),
    (s.callOk (.wb v)).out = v ∧ (s.callOk (.sb m)).out = s.out ||| m ∧ (s.callOk (.cb m)).out = s.out &&& ~~~m

/-- R51, R53, R54, R61, R95: whatever the port answers, an operation touches OUT_REG alone, `SB` and `CB` change the EN bit
alone, and EN is low in every written word. -/
def Obligations.PortUseLegal : Prop :=
  ∀ (i : Instr) (s t : State), s.cfg.pinmap.Legal → s.busy = false → exec i s = .next t →
    ∃ events, t.trace = s.trace ++ events ∧ ∀ e ∈ events, PortEventLegal s.cfg e

/-! ### The NibbleTransmitter -/

/-- R124, R125: `SendByte` written out, its counts and its least time. -/
def Obligations.SendByteList : Prop :=
  ∀ (c : Setup) (mode : Mode) (b : Byte),
    sendByte c mode b =
      [.port (.wb (outputWord c.pinmap mode (highNibble b))), .port (.sb (pinBit c.pinmap.en)), .dly c.timing.tEn,
       .port (.cb (pinBit c.pinmap.en)), .dly c.timing.tEn,
       .port (.wb (outputWord c.pinmap mode (lowNibble b))), .port (.sb (pinBit c.pinmap.en)), .dly c.timing.tEn,
       .port (.cb (pinBit c.pinmap.en)), .dly c.timing.tEn] ∧
    wbCount (sendByte c mode b) = 2 ∧ sbCount (sendByte c mode b) = 2 ∧ cbCount (sendByte c mode b) = 2 ∧
    dlyCount (sendByte c mode b) = 4 ∧ leastWait (sendByte c mode b) = 4 * c.timing.tEn ∧
    (c.timing.tEn = 5000 → leastWait (sendByte c mode b) = 20000)

/-- R127, R128: SENDBYTE of any payload in either mode, admitted and with six `ok`, sends its two nibbles, latches them in
order (after the stray one if EN was high), and ends with `Ok`. That a function-set payload makes `ctrl_sync` Unknown is
R271; that it does so at completion is the model's choice (log 19). -/
def Obligations.SendbyteCompletes : Prop :=
  ∀ (s : State) (payload : Byte) (mode : Mode),
    s.busy = false → s.initialized = true → s.cfg.pinmap.Legal → PortOk 6 s →
    ∃ t, exec (.sendbyte payload mode) s = .next t ∧
      RanOk s t 6 (byteEvents s.cfg mode payload)
        (strayLatch s ⟨Mode.rsLevel mode, highNibble payload⟩ ++ byteLatches mode payload)
        (4 * s.cfg.timing.tEn) (outputWord s.cfg.pinmap mode (lowNibble payload)) ∧
      FlagsKept s t ∧
      t.ctrlSync = (if mode = .command ∧ 0x20 ≤ payload ∧ payload ≤ 0x3F then .unknown else s.ctrlSync)

/-! ### The InitSequencer -/

/-- R152 to R157, R162, R262: INIT from any idle state, with 55 `ok`: the whole port trace, the latched stream, the flag and
the milestone, its least time, and `Ok`. The value of `ctrl_sync` is R34's and R161's. -/
def Obligations.InitCompletes : Prop :=
  ∀ (s : State) (o : InitOptions), s.busy = false → s.cfg.pinmap.Legal → PortOk 55 s →
    ∃ t, exec (.init o) s = .next t ∧
      RanOk s t 55 (initEvents s.cfg o) (strayLatch s ⟨false, 0x0⟩ ++ initLatches s.cfg o)
        (s.cfg.timing.tPowerOn + 32 * s.cfg.timing.tEn + s.cfg.timing.tInit1 + s.cfg.timing.tInit2 +
          s.cfg.timing.tInit3 + s.cfg.timing.tInit4 + s.cfg.timing.tClear)
        (outputWord s.cfg.pinmap .command 0x1) ∧
      t.initialized = true ∧ t.initState = .ready ∧
      t.ctrlSync = (if o.dataWidth then .unknown else .inSync)

/-- R162: the counts of INIT's list, its least duration, and its latched pairs. -/
def Obligations.InitCounts : Prop :=
  ∀ (c : Setup) (o : InitOptions),
    (expandInit c o).length = 106 ∧ portCount (expandInit c o) = 55 ∧ wbCount (expandInit c o) = 19 ∧
    sbCount (expandInit c o) = 18 ∧ cbCount (expandInit c o) = 18 ∧ dlyCount (expandInit c o) = 38 ∧
    (expandInit c o).countP MicroOp.isState = 13 ∧
    (traceOf c.outReg (expandInit c o)).length = 93 ∧
    leastWait (expandInit c o) = c.timing.tPowerOn + 4 * c.timing.tEn + c.timing.tInit1 + c.timing.tInit2 +
      c.timing.tInit3 + c.timing.tInit4 + 7 * 4 * c.timing.tEn + c.timing.tClear ∧
    (initLatches c o).length = 18 ∧ ∀ e ∈ initLatches c o, e.rs = false

/-- R126, R158, R231: if INIT's primitive number `k` (from 0) answers `fault` after `k` times `ok`, INIT ends there with `BusFault`,
not initialized and Unpowered, with the panel Unknown (R34), and every other instruction is then refused with `NotInitialized`: the
nine other operations (R180, R233), and each command byte or bring-up nibble by itself, whose being guarded is the model's choice
(log 11, 12). -/
def Obligations.InitFaults : Prop :=
  ∀ (s : State) (o : InitOptions) (k : Nat), s.busy = false → k < 55 → PortThen k .fault s →
    ∃ t, exec (.init o) s = .next t ∧
      t.trace = s.trace ++ traceOf s.cfg.outReg (cutAt k (expandInit s.cfg o)) ∧
      t.replies = s.replies ++ [⟨s.issuer, .busFault⟩] ∧ t.busy = false ∧
      t.initialized = false ∧ t.initState = .unpowered ∧ t.ctrlSync = .unknown ∧ SurroundingsKept s t ∧
      ∀ i, isGuarded i = true → ∃ u, exec i t = .next u ∧ RefusedWith .notInitialized t u

/-- R159: INIT run twice with the same options, all `ok`, adds the same entries to the port trace both times, whatever the
state it starts in, and leaves the block as the first run left it. -/
def Obligations.InitReplays : Prop :=
  ∀ (s : State) (o : InitOptions), s.busy = false → PortOk 110 s →
    ∃ t u events, exec (.init o) s = .next t ∧ exec (.init o) t = .next u ∧
      t.trace = s.trace ++ events ∧ u.trace = t.trace ++ events ∧ events.length = 93 ∧
      FlagsKept t u ∧ t.initialized = true ∧ SurroundingsKept t u

/-- R150: the milestone a host reads while INIT's primitive number `k` (from 0) has not answered. -/
def Obligations.InitMilestones : Prop :=
  ∀ (s : State) (o : InitOptions) (k : Nat), s.busy = false → k < 55 → PortThen k .waiting s →
    ∃ t, exec (.init o) s = .next t ∧ t.busy = true ∧ t.initialized = false ∧ t.replies = s.replies ∧
      t.initState =
        (if k < 1 then .unpowered else if k < 4 then .forcedIdle else if k < 7 then .eightBitPulse1
         else if k < 10 then .eightBitPulse2 else if k < 19 then .eightBitPulse3 else if k < 25 then .functionLocked
         else if k < 31 then .displayOff else if k < 43 then .entrySet else .displayConfigured)

/-- G6, R231, R240, R264 with R283 (log 5, 15 to 18): INIT with `dataWidth` 0 brings a controller in any state, whatever OUT
holds, to the 4-bit bus and in step with the block, with the options' settings and the address at row 0, column 0; no cell of
DDRAM or CGRAM is known then (log 5, 16, 17), and the final clear leaves increment set. The controller's part in it is the model's reading of the spec's general
knowledge. -/
def Obligations.InitEscapesAnyController : Prop :=
  ∀ (s : State) (o : InitOptions), s.busy = false → s.cfg.pinmap.Legal → o.dataWidth = false →
    s.lcd.owed ≤ s.cfg.timing.tPowerOn → PortOk 55 s →
    ∃ t, exec (.init o) s = .next t ∧ t.ctrlSync = .inSync ∧ Framed t ∧
      t.lcd.regs.lines = o.lineCount ∧ t.lcd.regs.font = o.font ∧ t.lcd.regs.inc = true ∧
      t.lcd.regs.shiftOn = o.autoShift ∧ t.lcd.regs.on = o.displayOn ∧ t.lcd.regs.cursor = o.cursorOn ∧
      t.lcd.regs.blink = o.blinkOn ∧ t.lcd.regs.place = .ddram (s.cfg.geom.rowStart.getD 0 0) ∧
      t.lcd.ddram = [] ∧ t.lcd.cgram = []

/-! ### DisplayCommands -/

/-- R181, R182, R191: CLEAR and HOME, admitted and with six `ok`: one command byte, then the settle, then `Ok`. -/
def Obligations.ClearHomeComplete : Prop :=
  ∀ s : State, s.busy = false → s.initialized = true → s.cfg.pinmap.Legal → PortOk 6 s →
    (∃ t, exec .clear s = .next t ∧
      RanOk s t 6 (byteEvents s.cfg .command 0x01 ++ [.wait s.cfg.timing.tClear])
        (strayLatch s ⟨false, 0x0⟩ ++ byteLatches .command 0x01)
        (4 * s.cfg.timing.tEn + s.cfg.timing.tClear) (outputWord s.cfg.pinmap .command 0x1) ∧
      FlagsKept s t ∧ t.ctrlSync = s.ctrlSync) ∧
    (∃ t, exec .home s = .next t ∧
      RanOk s t 6 (byteEvents s.cfg .command 0x02 ++ [.wait s.cfg.timing.tClear])
        (strayLatch s ⟨false, 0x0⟩ ++ byteLatches .command 0x02)
        (4 * s.cfg.timing.tEn + s.cfg.timing.tClear) (outputWord s.cfg.pinmap .command 0x2) ∧
      FlagsKept s t ∧ t.ctrlSync = s.ctrlSync)

/-- R183: GOTO in range, admitted and with six `ok`, sends the byte `0x80 | (rowStart[row] + column)` and ends with `Ok`. -/
def Obligations.GotoCompletes : Prop :=
  ∀ (s : State) (row : BitVec 4) (column : BitVec 8) (b : Byte),
    s.busy = false → s.initialized = true → s.cfg.pinmap.Legal → PortOk 6 s →
    row.toNat < s.cfg.geom.rows → column.toNat < s.cfg.geom.columns →
    b = 0x80 ||| BitVec.ofNat 8 ((s.cfg.geom.rowStart.getD row.toNat 0).toNat + column.toNat) →
    ∃ t, exec (.goto row column) s = .next t ∧
      RanOk s t 6 (byteEvents s.cfg .command b) (strayLatch s ⟨false, highNibble b⟩ ++ byteLatches .command b)
        (4 * s.cfg.timing.tEn) (outputWord s.cfg.pinmap .command (lowNibble b)) ∧
      FlagsKept s t ∧ t.ctrlSync = s.ctrlSync

/-- R183, R223: GOTO out of range, admitted, is refused with `OutOfRange`; nothing is written and nothing changes. -/
def Obligations.GotoOutOfRange : Prop :=
  ∀ (s : State) (row : BitVec 4) (column : BitVec 8), s.busy = false → s.initialized = true →
    (s.cfg.geom.rows ≤ row.toNat ∨ s.cfg.geom.columns ≤ column.toNat) →
    ∃ t, exec (.goto row column) s = .next t ∧ RefusedWith .outOfRange s t

/-- R188: for a legal geometry the address of an admitted GOTO fits seven bits, and the byte is the sum with `0x80`. -/
def Obligations.GotoAddressFits : Prop :=
  ∀ (g : Geometry) (row : BitVec 4) (column : BitVec 8), g.Legal → row.toNat < g.rows → column.toNat < g.columns →
    ∃ start ∈ g.rowStart, g.rowStart[row.toNat]? = some start ∧
      gotoAddress g row column = start.toNat + column.toNat ∧ gotoAddress g row column ≤ 0x7F ∧
      (ddramByte (gotoAddress g row column)).toNat = 0x80 + (start.toNat + column.toNat)

/-- R184 to R186: SETENTRY, SETDISPLAY and SETMOVE, admitted and with twelve `ok`: the composed byte, then the clear and its
settle, then `Ok`. -/
def Obligations.ModeOperationsComplete : Prop :=
  ∀ (s : State) (i : Instr) (b : Byte), s.busy = false → s.initialized = true → s.cfg.pinmap.Legal → PortOk 12 s →
    ((∃ a sh, i = .setentry a sh ∧ b = 0x04 ||| (if a then 0x02 else 0) ||| (if sh then 0x01 else 0)) ∨
     (∃ d c bl, i = .setdisplay d c bl ∧
        b = 0x08 ||| (if d then 0x04 else 0) ||| (if c then 0x02 else 0) ||| (if bl then 0x01 else 0)) ∨
     (∃ v r, i = .setmove v r ∧ b = 0x10 ||| (if v then 0x08 else 0) ||| (if r then 0x04 else 0))) →
    ∃ t, exec i s = .next t ∧
      RanOk s t 12 (byteEvents s.cfg .command b ++ byteEvents s.cfg .command 0x01 ++ [.wait s.cfg.timing.tClear])
        (strayLatch s ⟨false, highNibble b⟩ ++ byteLatches .command b ++ byteLatches .command 0x01)
        (8 * s.cfg.timing.tEn + s.cfg.timing.tClear) (outputWord s.cfg.pinmap .command 0x1) ∧
      FlagsKept s t ∧ t.ctrlSync = s.ctrlSync

/-- R187, R190: LOADGLYPHS of any table, admitted and with all `ok`: the CGRAM address byte, each byte as Data in table order,
the byte of row 0, column 0, and `Ok`. -/
def Obligations.LoadglyphsCompletes : Prop :=
  ∀ (s : State) (table : List Byte) (back : Byte),
    s.busy = false → s.initialized = true → s.cfg.pinmap.Legal → PortOk (6 * (table.length + 2)) s →
    back = 0x80 ||| BitVec.ofNat 8 (s.cfg.geom.rowStart.getD 0 0).toNat →
    ∃ t, exec (.loadglyphs table) s = .next t ∧
      RanOk s t (6 * (table.length + 2))
        (byteEvents s.cfg .command 0x40 ++ table.flatMap (byteEvents s.cfg .data) ++ byteEvents s.cfg .command back)
        (strayLatch s ⟨false, 0x4⟩ ++ byteLatches .command 0x40 ++ table.flatMap (byteLatches .data) ++
          byteLatches .command back)
        (4 * (table.length + 2) * s.cfg.timing.tEn) (outputWord s.cfg.pinmap .command (lowNibble back)) ∧
      FlagsKept s t ∧ t.ctrlSync = s.ctrlSync

/-- R189: WRITESTRING of any text, admitted and with all `ok`: each character as Data in order, nothing else, and `Ok`; an
empty text leaves the port alone. -/
def Obligations.WritestringCompletes : Prop :=
  ∀ (s : State) (text : List Byte),
    s.busy = false → s.initialized = true → s.cfg.pinmap.Legal → PortOk (6 * text.length) s →
    ∃ t, exec (.writestring text) s = .next t ∧
      RanOk s t (6 * text.length) (text.flatMap (byteEvents s.cfg .data))
        ((match text with
          | [] => []
          | b :: _ => strayLatch s ⟨true, highNibble b⟩) ++ text.flatMap (byteLatches .data))
        (4 * text.length * s.cfg.timing.tEn)
        (match text.getLast? with
          | none => s.out
          | some b => outputWord s.cfg.pinmap .data (lowNibble b)) ∧
      FlagsKept s t ∧ t.ctrlSync = s.ctrlSync

/-- R69, R246 (what the block adds to the burst rule): two requests of one host that lie next to each other in the queue, a GOTO
in range and a WRITESTRING, run one after the other in two steps; nothing else comes between their port traces, and both statuses
go to that host. -/
def Obligations.BurstStaysWhole : Prop :=
  ∀ (s : State) (host : Nat) (row : BitVec 4) (column : BitVec 8) (text : List Byte) (others : List Request),
    s.resetReq = false → s.busy = false → s.initialized = true → lengthFits text = true →
    row.toNat < s.cfg.geom.rows → column.toNat < s.cfg.geom.columns → PortOk (6 + 6 * text.length) s →
    s.pending = ⟨host, encode (.goto row column)⟩ :: ⟨host, encode (.writestring text)⟩ :: others →
    ∃ t u, step s = .next t ∧ step t = .next u ∧
      u.trace = s.trace ++
        byteEvents s.cfg .command
          (0x80 ||| BitVec.ofNat 8 ((s.cfg.geom.rowStart.getD row.toNat 0).toNat + column.toNat)) ++
        text.flatMap (byteEvents s.cfg .data) ∧
      u.pending = others ∧ u.replies = s.replies ++ [⟨host, .ok⟩, ⟨host, .ok⟩]

/-! ### The command bytes and bring-up nibbles by themselves -/

/-- R99 to R101, R124, R233 (log 11): an LCD8 row, admitted and with six `ok`, is sent as its byte; the clear and the home byte
carry the settle of R237. That a host can have the row transmitted by itself is the model's choice, and so is when `ctrl_sync`
becomes Unknown (log 19). -/
def Obligations.CommandBytesComplete : Prop :=
  ∀ (s : State) (i : Instr) (b : Byte), s.busy = false → s.initialized = true → s.cfg.pinmap.Legal → PortOk 6 s →
    encode i = .byte b →
    ∃ t, exec i s = .next t ∧
      RanOk s t 6
        (byteEvents s.cfg .command b ++
          (if i = .lcdDisplayClear ∨ i = .lcdDisplayHome then [.wait s.cfg.timing.tClear] else []))
        (strayLatch s ⟨false, highNibble b⟩ ++ byteLatches .command b)
        (4 * s.cfg.timing.tEn) (outputWord s.cfg.pinmap .command (lowNibble b)) ∧
      FlagsKept s t ∧
      t.ctrlSync = (if 0x20 ≤ b ∧ b ≤ 0x3F then .unknown else s.ctrlSync)

/-- R102, R122, R154, R233 (log 12): a NIB4 row, admitted and with three `ok`, is one lone nibble with RS low, EN high for
`T_EN`, and then the wait INIT has after its first `0x3` or after its `0x2`. That a host can have it sent by itself, and with which
wait, is the model's choice. -/
def Obligations.BringUpNibblesComplete : Prop :=
  ∀ s : State, s.busy = false → s.initialized = true → s.cfg.pinmap.Legal → PortOk 3 s →
    (∃ t, exec .nibEightbit s = .next t ∧
      RanOk s t 3 (pulseEvents s.cfg 0x3 s.cfg.timing.tInit1) (strayLatch s ⟨false, 0x3⟩ ++ [pulseLatch 0x3])
        (s.cfg.timing.tEn + s.cfg.timing.tInit1) (outputWord s.cfg.pinmap .command 0x3) ∧
      FlagsKept s t ∧ t.ctrlSync = .unknown) ∧
    (∃ t, exec .nibFourbit s = .next t ∧
      RanOk s t 3 (pulseEvents s.cfg 0x2 s.cfg.timing.tInit4) (strayLatch s ⟨false, 0x2⟩ ++ [pulseLatch 0x2])
        (s.cfg.timing.tEn + s.cfg.timing.tInit4) (outputWord s.cfg.pinmap .command 0x2) ∧
      FlagsKept s t ∧ t.ctrlSync = .unknown)

/-! ### Errors -/

/-- R180, R222, R233, R262: while `initialized = 0` every instruction but INIT is refused with `NotInitialized`, and nothing
changes: each of the nine other operations, and each command byte or bring-up nibble by itself (log 11, 12); and the first port
primitive of INIT, so the first after reset, is the idle word. -/
def Obligations.GuardRefuses : Prop :=
  ∀ (s : State), s.busy = false → s.initialized = false →
    (∀ i, isInit i = false → ∃ t, exec i s = .next t ∧ RefusedWith .notInitialized s t) ∧
    (∀ o t, exec (.init o) s = .next t →
      t.trace = s.trace ∨ ∃ more, t.trace = s.trace ++ .call s.cfg.outReg (.wb 0x00) :: more)

/-- R229: the one status reported when several would apply, for a frame at the head of the queue: `IllegalCommand` before
`NotInitialized` before `OutOfRange` before `BusFault`. -/
def Obligations.CheckOrder : Prop :=
  ∀ (s : State) (host : Nat) (words : List CmdWord) (others : List Request), s.resetReq = false → s.busy = false →
    s.pending = ⟨host, .frame words⟩ :: others → decode (.frame words) ≠ .incomplete →
    ∃ t, step s = .next t ∧
      ((∃ why rest, decode (.frame words) = .reserved why rest) →
        t.replies = s.replies ++ [⟨host, .illegalCommand⟩] ∧ t.trace = s.trace) ∧
      (∀ i rest, decode (.frame words) = .instr i rest →
        (s.initialized = false → isInit i = false →
          t.replies = s.replies ++ [⟨host, .notInitialized⟩] ∧ t.trace = s.trace) ∧
        (s.initialized = true → ∀ row column, i = .goto row column →
          (s.cfg.geom.rows ≤ row.toNat ∨ s.cfg.geom.columns ≤ column.toNat) →
          t.replies = s.replies ++ [⟨host, .outOfRange⟩] ∧ t.trace = s.trace) ∧
        (refusalOf i s = none → ∀ k, k < portCount (expand s.cfg i) → PortThen k .fault s →
          t.replies = s.replies ++ [⟨host, .busFault⟩]))

/-- R126, R221, R226, R227, R230: any instruction that is not refused and whose primitive number `k` (from 0) answers `fault`
after `k` times `ok` ends there: the port trace is its list cut after that primitive, the status is `BusFault`, the panel is
Unknown, and the flag and milestone stay unless it is INIT. -/
def Obligations.BusFaultEndsAnyInstruction : Prop :=
  ∀ (i : Instr) (s : State) (k : Nat), s.busy = false → refusalOf i s = none →
    k < portCount (expand s.cfg i) → PortThen k .fault s →
    ∃ t, exec i s = .next t ∧
      t.trace = s.trace ++ traceOf s.cfg.outReg (cutAt k (expand s.cfg i)) ∧
      t.replies = s.replies ++ [⟨s.issuer, .busFault⟩] ∧ t.ctrlSync = .unknown ∧ t.busy = false ∧ t.inFlight = false ∧
      t.answers = s.answers.drop (k + 1) ∧ SurroundingsKept s t ∧ (isInit i = false → FlagsKept s t)

/-- R13, R69, R120: whatever the port answers and wherever the step stops, an idle block adds to the port trace an initial part
of the instruction's own list and nothing else; with status `Ok` it is the whole list. -/
def Obligations.TraceIsPartOfList : Prop :=
  ∀ (i : Instr) (s t : State), s.busy = false → exec i s = .next t →
    ∃ done, t.trace = s.trace ++ done ∧ done <+: traceOf s.cfg.outReg (expand s.cfg i) ∧
      WorldKept s t ∧ (t.busy = false → t.resetReq = s.resetReq) ∧
      (t.replies = s.replies ++ [⟨s.issuer, .ok⟩] → done = traceOf s.cfg.outReg (expand s.cfg i))

/-- R55, 93 U5 (log 2): a port that is silent for a while only delays. An instruction whose primitive number `k` has not
answered leaves the block busy with no status returned; whatever the port answers from then on (`ok`, a `fault`, another
silence), the next step ends with the same port trace, latched stream, statuses, flags and time as if there had been no silence,
and with the same OUT unless a primitive faulted. -/
def Obligations.SilentPortOnlyDelays : Prop :=
  ∀ (i : Instr) (s : State) (k : Nat) (more : List PortAnswer), s.busy = false → s.resetReq = false →
    refusalOf i s = none → k < portCount (expand s.cfg i) → portCount (expand s.cfg i) - k ≤ more.length → NoPause s →
    s.answers = List.replicate k .ok ++ .waiting :: more →
    ∃ t u v, exec i s = .next t ∧ t.busy = true ∧ t.inFlight = true ∧ t.replies = s.replies ∧
      step t = .next u ∧ exec i { s with answers := List.replicate k .ok ++ more } = .next v ∧
      u.trace = v.trace ∧ u.latched = v.latched ∧ u.replies = v.replies ∧ u.elapsed = v.elapsed ∧
      u.initialized = v.initialized ∧ u.initState = v.initState ∧ u.busy = v.busy ∧ u.inFlight = v.inFlight ∧
      u.upc = v.upc ∧ u.seq = v.seq ∧ u.ctrlSync = v.ctrlSync ∧ u.answers = v.answers ∧ SurroundingsKept u v ∧
      (.fault ∉ more.take (portCount (expand s.cfg i) - k) → u.out = v.out)

/-- R26, R30, R126, R226, R230: the rest of an operation in progress, whatever stopped the block before. Its primitives all answer
`ok`: it adds the rest of its list to the port trace and ends with `Ok`. One of them answers `fault`: it ends there with
`BusFault` and the panel Unknown; an INIT leaves the block not initialized and Unpowered, any other operation leaves the flag and
the milestone. One of them is silent: the block stays busy at it. -/
def Obligations.ResumedOperation : Prop :=
  ∀ s : State, s.busy = true → s.resetReq = false → FlightInv s → ReadyInv s →
    (PortOk (portCount s.rest) s →
      ∃ t, step s = .next t ∧ t.busy = false ∧ t.replies = s.replies ++ [⟨s.issuer, .ok⟩] ∧
        t.trace = s.trace ++ (traceOf s.cfg.outReg s.rest).drop s.begun.toNat ∧ SurroundingsKept s t) ∧
    (∀ k, k < portCount s.rest → PortThen k .fault s →
      ∃ t, step s = .next t ∧ t.busy = false ∧ t.inFlight = false ∧ t.replies = s.replies ++ [⟨s.issuer, .busFault⟩] ∧
        t.trace = s.trace ++ (traceOf s.cfg.outReg (cutAt k s.rest)).drop s.begun.toNat ∧ t.ctrlSync = .unknown ∧
        SurroundingsKept s t ∧
        (∀ o, s.op = some (.init o) → t.initialized = false ∧ t.initState = .unpowered) ∧
        ((∀ o, s.op ≠ some (.init o)) → FlagsKept s t)) ∧
    (∀ k, k < portCount s.rest → PortThen k .waiting s →
      ∃ t, step s = .next t ∧ t.busy = true ∧ t.inFlight = true ∧ t.replies = s.replies ∧ t.seq = s.seq ∧ t.op = s.op ∧
        t.trace = s.trace ++ (traceOf s.cfg.outReg (cutAt k s.rest)).drop s.begun.toNat ∧ SurroundingsKept s t)

/-- R260, R26, R32 (log 1): an operation can be stopped before, in and after each of its micro-operations, waits included. The
block is busy there, `upc` points at the micro-operation, and no status has been returned. Without a reset the next step goes on
to exactly the outcome of the operation that was not stopped; with a reset the operation ends there, without a status, and the
port trace, OUT and the latched stream stay as they were at that moment. -/
def Obligations.StoppedAnywhere : Prop :=
  ∀ (i : Instr) (s : State) (p : Pause), s.busy = false → s.resetReq = false → refusalOf i s = none →
    s.pauses = [p] → p.done ≤ (expand s.cfg i).length →
    s.answers.take (portCount ((expand s.cfg i).take p.done)) =
      List.replicate (portCount ((expand s.cfg i).take p.done)) .ok →
    ∃ t, exec i s = .next t ∧ t.busy = true ∧ t.upc = p.done ∧ t.seq = expand s.cfg i ∧ t.replies = s.replies ∧
      t.trace = s.trace ++
        traceOf s.cfg.outReg ((expand s.cfg i).take (if p.started = none then p.done else p.done + 1)) ∧
      (∀ d us, (expand s.cfg i)[p.done]? = some (.dly d) → p.started = some us →
        t.timer = Timing.waited s.cfg.timing d - min us (Timing.waited s.cfg.timing d) ∧ t.timerOn = true) ∧
      (p.reset = false → step t = exec i { s with pauses := [] }) ∧
      (p.reset = true → s.straps.Legal →
        ∃ u, step t = .next u ∧ u.busy = false ∧ u.initialized = false ∧ u.initState = .unpowered ∧
          u.ctrlSync = .unknown ∧ u.replies = s.replies ∧ u.trace = t.trace ∧ u.latched = t.latched ∧ u.out = t.out ∧
          u.lcd = t.lcd ∧ u.elapsed = t.elapsed)

/-- R24, R25, R151, R230: no instruction but INIT changes `initialized` or `init_state`, whatever the port answers. -/
def Obligations.OnlyInitChangesFlags : Prop :=
  ∀ (i : Instr) (s t : State), isInit i = false → exec i s = .next t → FlagsKept s t

/-! ### The step -/

/-- R80: when the block is idle and the oldest request decodes to `i`, the step takes it off the queue and is `exec i` there.
That one step runs the operation (log 1) and that the words after the frame stay at the head of the queue as that host's next frame
(log 9) are the model's choices. -/
def Obligations.StepRunsDecoded : Prop :=
  ∀ (s : State) (r : Request) (others : List Request) (i : Instr) (rest : List CmdWord),
    s.resetReq = false → s.busy = false → s.pending = r :: others → decode r.offer = .instr i rest →
    step s = exec i { s with
      issuer := r.host
      pending := if rest = [] then others else ⟨r.host, .frame rest⟩ :: others }

/-- R260 (after reset the block waits for a frame), R80 (a frame is taken whole; log 9): with no request, or with a frame whose
words are not all there, a step changes nothing. -/
def Obligations.IdleWaits : Prop :=
  ∀ s : State, s.resetReq = false → s.busy = false →
    (s.pending = [] ∨ ∃ r others, s.pending = r :: others ∧ decode r.offer = .incomplete) → step s = .next s

/-- R26, R80, R70: a busy block takes no frame. An instruction offered to it waits, and a step of it goes on with the operation
in progress, whatever hosts have put on the queue since. -/
def Obligations.BusyTakesNoFrame : Prop :=
  ∀ (s : State), s.busy = true →
    (∀ i, exec i s = .next s) ∧
    (s.resetReq = false → ∃ t, step s = .next t ∧ t.pending = s.pending ∧ t.issuer = s.issuer ∧
      ∀ q, step { s with pending := q } = .next { t with pending := q })

/-- R69, R226: a step takes requests from the head of the queue only, at most one, and returns at most one status, to the
host whose request is running. Of a request with more than one frame it takes the first, which the decoder delimits; the rest stays
at the head (log 9). -/
def Obligations.RequestsInOrder : Prop :=
  ∀ s t : State, step s = .next t →
    ((t.pending = s.pending ∧ t.issuer = s.issuer) ∨
      ∃ r others rest, s.busy = false ∧ s.resetReq = false ∧ s.pending = r :: others ∧
        ((∃ i, decode r.offer = .instr i rest) ∨ ∃ why, decode r.offer = .reserved why rest) ∧ t.issuer = r.host ∧
        t.pending = if rest = [] then others else ⟨r.host, .frame rest⟩ :: others) ∧
    (t.replies = s.replies ∨ ∃ st, t.replies = s.replies ++ [⟨t.issuer, st⟩])

/-- R25, R96, R224: the codes of the statuses and of the milestones as a host reads them, and the block never produces
`BufferOverflow`. -/
def Obligations.CodesAndStatuses : Prop :=
  Status.ok.code = 0 ∧ Status.busFault.code = 1 ∧ Status.notInitialized.code = 2 ∧ Status.outOfRange.code = 3 ∧
    Status.bufferOverflow.code = 4 ∧ Status.illegalCommand.code = 5 ∧
    InitState.unpowered.code = 0 ∧ InitState.forcedIdle.code = 1 ∧ InitState.eightBitPulse1.code = 2 ∧
    InitState.eightBitPulse2.code = 3 ∧ InitState.eightBitPulse3.code = 4 ∧ InitState.functionLocked.code = 5 ∧
    InitState.displayOff.code = 6 ∧ InitState.entrySet.code = 7 ∧ InitState.displayConfigured.code = 8 ∧
    InitState.cleared.code = 9 ∧ InitState.ready.code = 10 ∧
    ∀ s t : State, step s = .next t →
      ∃ new, t.replies = s.replies ++ new ∧ new.length ≤ 1 ∧ ∀ r ∈ new, r.status ≠ .bufferOverflow

/-! ### Reset and configuration -/

/-- R36: the values after reset that the spec gives. -/
def Obligations.ResetValues : Prop :=
  State.reset.initialized = false ∧ State.reset.initState.code = 0 ∧ State.reset.busy = false ∧ State.reset.upc = 0 ∧
    State.reset.seq = [] ∧ State.reset.ctrlSync = .unknown ∧ State.reset.trace = [] ∧
    State.reset.cfg.pinmap = State.reset.straps.pinmap ∧ State.reset.cfg.geom = State.reset.straps.geom ∧
    State.reset.cfg.timing.tEn = 5000 ∧ State.reset.cfg.timing.tInit1 = 4100 ∧ State.reset.cfg.timing.tInit2 = 100 ∧
    State.reset.cfg.timing.tInit3 = 100 ∧ State.reset.cfg.timing.tInit4 = 37 ∧ State.reset.cfg.timing.tClear = 1600

/-- R260 to R262: reset at any time, also in the middle of an operation (where that can be: `StoppedAnywhere`), with legal
configuration inputs: the block's elements get their reset values, the inputs are latched, no status is returned, no primitive is
issued and no wait started, and OUT and the controller stay as they are. That a primitive in flight has no effect and makes no latch
event from then on, that the requests that wait survive reset, and that the input is then no longer applied, are the model's
choices (log 21). -/
def Obligations.ResetAtAnyTime : Prop :=
  ∀ s : State, s.resetReq = true → s.straps.Legal →
    ∃ t, step s = .next t ∧ t.initialized = false ∧ t.initState = .unpowered ∧ t.busy = false ∧ t.upc = 0 ∧
      t.seq = [] ∧ t.ctrlSync = .unknown ∧ t.inFlight = false ∧ t.timerOn = false ∧ t.resetReq = false ∧
      t.cfg.pinmap = s.straps.pinmap ∧ t.cfg.geom = s.straps.geom ∧ t.cfg.timing = s.cfg.timing ∧
      t.cfg.outReg = s.cfg.outReg ∧ t.replies = s.replies ∧ t.trace = s.trace ∧ t.latched = s.latched ∧
      t.elapsed = s.elapsed ∧ t.pending = s.pending ∧ t.out = s.out ∧ t.lcd = s.lcd

/-- R10, R261, 93 U9 (log 20): configuration inputs that are not legal are refused at reset. -/
def Obligations.IllegalConfigurationRefused : Prop :=
  ∀ s : State, s.resetReq = true → ¬ s.straps.Legal → step s = .refused .illegalConfiguration

/-! ### Invariants -/

/-- R28: every step keeps "whenever `busy = 0`, `initialized = 1` if and only if `init_state` is Ready" (with what it needs
of a state in mid-operation). -/
def Obligations.ReadyInvariantKept : Prop := ∀ s t : State, ReadyInv s → step s = .next t → ReadyInv t

/-- The state after reset has it. -/
def Obligations.ReadyInvariantAtReset : Prop := ReadyInv State.reset

/-- R64, R65 (log 5): every step keeps the controller's memories in their canonical form and inside their address spaces. -/
def Obligations.MemoryInvariantKept : Prop := ∀ s t : State, MemoryInv s → step s = .next t → MemoryInv t

/-- The state after reset has it. -/
def Obligations.MemoryInvariantAtReset : Prop := MemoryInv State.reset

/-- R30, R32, R55: every step keeps the sequencer's position inside its list, and a primitive in flight or a running wait is the
micro-operation it points at, the last entry of the port trace. -/
def Obligations.FlightInvariantKept : Prop := ∀ s t : State, FlightInv s → step s = .next t → FlightInv t

/-- The state after reset has it. -/
def Obligations.FlightInvariantAtReset : Prop := FlightInv State.reset

/-- R10, R21, R22, R261: every step keeps the configuration legal; only reset changes it, and only to the inputs. -/
def Obligations.ConfigurationKept : Prop :=
  ∀ s t : State, s.cfg.Legal → step s = .next t →
    t.cfg.Legal ∧ t.cfg.timing = s.cfg.timing ∧ t.cfg.outReg = s.cfg.outReg ∧ (s.resetReq = false → t.cfg = s.cfg) ∧
      (s.resetReq = true → t.cfg.pinmap = s.straps.pinmap ∧ t.cfg.geom = s.straps.geom)

/-- The configuration after reset is legal (the example configuration of log 6). -/
def Obligations.ConfigurationAtReset : Prop := State.reset.cfg.Legal ∧ State.reset.straps.Legal

/-! ### Counts and least durations -/

/-- R290: the counts and least durations of every operation, with the source's constants and any T_POWERON. -/
def Obligations.LeastDurations : Prop :=
  ∀ (c : Setup) (p k : Nat), c.timing = { Config.timing with tPowerOn := p, tick := k } →
    let row := fun ops => (wbCount ops, sbCount ops, cbCount ops, dlyCount ops, leastWait ops)
    (∀ b m, row (expandSendbyte c b m) = (2, 2, 2, 4, 20000)) ∧
    (∀ o, row (expandInit c o) = (19, 18, 18, 38, p + 165937)) ∧
    row (expandClear c) = (2, 2, 2, 5, 21600) ∧ row (expandHome c) = (2, 2, 2, 5, 21600) ∧
    (∀ r cl, row (expandGoto c r cl) = (2, 2, 2, 4, 20000)) ∧
    (∀ a b, row (expandSetentry c a b) = (4, 4, 4, 9, 41600)) ∧
    (∀ a b d, row (expandSetdisplay c a b d) = (4, 4, 4, 9, 41600)) ∧
    (∀ a b, row (expandSetmove c a b) = (4, 4, 4, 9, 41600)) ∧
    (∀ t, row (expandLoadglyphs c t) =
      (2 * t.length + 4, 2 * t.length + 4, 2 * t.length + 4, 4 * t.length + 8, 20000 * (t.length + 2))) ∧
    (∀ t, row (expandWritestring c t) =
      (2 * t.length, 2 * t.length, 2 * t.length, 4 * t.length, 20000 * t.length)) ∧
    (∀ i s st, s.busy = false → refusalOf i s = some st →
      ∃ t, exec i s = .next t ∧ t.trace = s.trace ∧ t.elapsed = s.elapsed)

/-! ### The panel -/

/-- R34, R60, R128, R231 (log 15, 18, 19): every step keeps the controller in step with the block whenever `ctrl_sync` says so:
through all instructions and resets, whatever the port answers and wherever an operation is stopped; INIT brings it there from any
state (if it owes no more than the power-on wait when INIT begins). How the controller takes nibbles is the model's reading of the
spec's general knowledge. -/
def Obligations.PanelTrackingKept : Prop :=
  ∀ s t : State, s.cfg.pinmap.Legal → HoldCoversSettle s → FlightInv s → PanelInv s →
    (∀ r others o rest, s.busy = false → s.pending = r :: others → decode r.offer = .instr (.init o) rest →
      s.lcd.owed ≤ s.cfg.timing.tPowerOn) →
    step s = .next t → PanelInv t

/-- The state after reset has it: nothing is claimed of the panel there. -/
def Obligations.PanelTrackingAtReset : Prop := PanelInv State.reset

/-- R50, R66, G5, U12 (log 15, 16): a text written to a controller in step that increments, from DDRAM address `a` and not past
the end of DDRAM, is in DDRAM at the addresses from `a` on; every other cell, CGRAM and every setting are as before, and the address
is the one behind the text where there is one. -/
def Obligations.WritestringFillsDdram : Prop :=
  ∀ (s : State) (text : List Byte) (a : BitVec 7), s.busy = false → s.initialized = true → Framed s →
    s.lcd.regs.place = .ddram a → s.lcd.regs.inc = true → a.toNat + text.length ≤ 0x80 →
    PortOk (6 * text.length) s →
    ∃ t, exec (.writestring text) s = .next t ∧ Framed t ∧
      (∀ k (h : k < text.length), Memory.read t.lcd.ddram (a.toNat + k) = some text[k]) ∧
      (∀ x, x < a.toNat ∨ a.toNat + text.length ≤ x → Memory.read t.lcd.ddram x = Memory.read s.lcd.ddram x) ∧
      t.lcd.cgram = s.lcd.cgram ∧
      t.lcd.regs = { s.lcd.regs with place := t.lcd.regs.place, view := t.lcd.regs.view } ∧
      (a.toNat + text.length ≤ 0x7F → t.lcd.regs.place = .ddram (BitVec.ofNat 7 (a.toNat + text.length))) ∧
      (s.lcd.regs.shiftOn = false → t.lcd.regs.view = s.lcd.regs.view)

/-- R65, R187, G4, G5 (log 15, 16): a table of at most 64 bytes loaded into a controller in step that increments is in CGRAM from
address 0 on; every other cell of it, all of DDRAM and every setting are as before, and the address is back at row 0, column 0. -/
def Obligations.LoadglyphsFillsCgram : Prop :=
  ∀ (s : State) (table : List Byte), s.busy = false → s.initialized = true → Framed s → s.lcd.regs.inc = true →
    table.length ≤ 64 → PortOk (6 * (table.length + 2)) s →
    ∃ t, exec (.loadglyphs table) s = .next t ∧ Framed t ∧
      (∀ k (h : k < table.length), Memory.read t.lcd.cgram k = some table[k]) ∧
      (∀ x, table.length ≤ x → Memory.read t.lcd.cgram x = Memory.read s.lcd.cgram x) ∧
      t.lcd.ddram = s.lcd.ddram ∧
      t.lcd.regs = { s.lcd.regs with
        place := .ddram (s.cfg.geom.rowStart.getD 0 0), view := t.lcd.regs.view } ∧
      (s.lcd.regs.shiftOn = false → t.lcd.regs.view = s.lcd.regs.view)

/-- R98, R183 to R186, R283 (G7, G8; log 16, 17): what the commands of a host do to a controller in step, and what they leave.
CLEAR and the three mode operations wipe DDRAM, set increment and leave CGRAM; HOME and GOTO leave both memories. What
HOME leaves is the model's choice, what the mode and address bytes leave is deduced (log 16). -/
def Obligations.CommandsOnPanel : Prop :=
  ∀ s : State, s.busy = false → s.initialized = true → Framed s → PortOk 12 s →
    (∃ t, exec .clear s = .next t ∧ Framed t ∧ t.lcd.ddram = [] ∧ t.lcd.cgram = s.lcd.cgram ∧
      t.lcd.regs = { s.lcd.regs with inc := true, place := t.lcd.regs.place, view := t.lcd.regs.view }) ∧
    (∃ t, exec .home s = .next t ∧ Framed t ∧ t.lcd.ddram = s.lcd.ddram ∧ t.lcd.cgram = s.lcd.cgram ∧
      t.lcd.regs = { s.lcd.regs with place := t.lcd.regs.place, view := t.lcd.regs.view }) ∧
    (∀ row column, s.cfg.geom.Legal → row.toNat < s.cfg.geom.rows → column.toNat < s.cfg.geom.columns →
      ∃ t, exec (.goto row column) s = .next t ∧ Framed t ∧ t.lcd.ddram = s.lcd.ddram ∧ t.lcd.cgram = s.lcd.cgram ∧
        t.lcd.regs = { s.lcd.regs with
          place := .ddram (BitVec.ofNat 7 ((s.cfg.geom.rowStart.getD row.toNat 0).toNat + column.toNat)) }) ∧
    (∀ a sh, ∃ t, exec (.setentry a sh) s = .next t ∧ Framed t ∧ t.lcd.ddram = [] ∧ t.lcd.cgram = s.lcd.cgram ∧
      t.lcd.regs = { s.lcd.regs with
        inc := true, shiftOn := sh, place := t.lcd.regs.place, view := t.lcd.regs.view }) ∧
    (∀ d c b, ∃ t, exec (.setdisplay d c b) s = .next t ∧ Framed t ∧ t.lcd.ddram = [] ∧ t.lcd.cgram = s.lcd.cgram ∧
      t.lcd.regs = { s.lcd.regs with
        inc := true, on := d, cursor := c, blink := b, place := t.lcd.regs.place, view := t.lcd.regs.view }) ∧
    (∀ v r, ∃ t, exec (.setmove v r) s = .next t ∧ Framed t ∧ t.lcd.ddram = [] ∧ t.lcd.cgram = s.lcd.cgram ∧
      t.lcd.regs = { s.lcd.regs with inc := true, place := t.lcd.regs.place, view := t.lcd.regs.view })

/-- R64, R65, R98, G7 (log 11, 15, 16): what the single command bytes do to a controller in step, and what they leave. What the
home byte leaves is the model's choice, what the mode, move and address bytes leave is deduced (log 16). -/
def Obligations.CommandBytesOnPanel : Prop :=
  ∀ s : State, s.busy = false → s.initialized = true → Framed s → PortOk 6 s →
    (∃ t, exec .lcdDisplayClear s = .next t ∧ Framed t ∧ t.lcd.ddram = [] ∧ t.lcd.cgram = s.lcd.cgram ∧
      t.lcd.regs = { s.lcd.regs with inc := true, place := t.lcd.regs.place, view := t.lcd.regs.view }) ∧
    (∃ t, exec .lcdDisplayHome s = .next t ∧ Framed t ∧ t.lcd.ddram = s.lcd.ddram ∧ t.lcd.cgram = s.lcd.cgram ∧
      t.lcd.regs = { s.lcd.regs with place := t.lcd.regs.place, view := t.lcd.regs.view }) ∧
    (∀ a sh, ∃ t, exec (.lcdEntryMode a sh) s = .next t ∧ Framed t ∧
      t.lcd = { s.lcd with regs := { s.lcd.regs with inc := a, shiftOn := sh } }) ∧
    (∀ d c b, ∃ t, exec (.lcdDisplayMode d c b) s = .next t ∧ Framed t ∧
      t.lcd = { s.lcd with regs := { s.lcd.regs with on := d, cursor := c, blink := b } }) ∧
    (∀ r, ∃ t, exec (.lcdMoveMode true r) s = .next t ∧ Framed t ∧
      t.lcd = { s.lcd with regs := { s.lcd.regs with
        view := if r then s.lcd.regs.view + 1 else s.lcd.regs.view - 1 } }) ∧
    (∀ r a, Place.step r s.lcd.regs.place = some a → ∃ t, exec (.lcdMoveMode false r) s = .next t ∧ Framed t ∧
      t.lcd = { s.lcd with regs := { s.lcd.regs with place := a } }) ∧
    (∀ a, ∃ t, exec (.lcdCgramAddr a) s = .next t ∧ Framed t ∧
      t.lcd = { s.lcd with regs := { s.lcd.regs with place := .cgram a } }) ∧
    (∀ a, ∃ t, exec (.lcdDdramAddr a) s = .next t ∧ Framed t ∧
      t.lcd = { s.lcd with regs := { s.lcd.regs with place := .ddram a } })

/-- R50, R66, R98, R127 (log 11, 15, 16): SENDBYTE to a controller in step. A Data byte is stored at the address counter, in DDRAM or
in CGRAM, and nowhere else, and the counter moves by the entry mode where that stays inside the memory; a Command byte of the table
that is no function set does what its own row does. -/
def Obligations.SendbyteOnPanel : Prop :=
  ∀ (s : State) (b : Byte), s.busy = false → s.initialized = true → Framed s → PortOk 6 s →
    (∃ t, exec (.sendbyte b .data) s = .next t ∧ Framed t ∧
      (∀ a, s.lcd.regs.place = .ddram a →
        Memory.read t.lcd.ddram a.toNat = some b ∧ t.lcd.cgram = s.lcd.cgram ∧
          ∀ x, x ≠ a.toNat → Memory.read t.lcd.ddram x = Memory.read s.lcd.ddram x) ∧
      (∀ a, s.lcd.regs.place = .cgram a →
        Memory.read t.lcd.cgram a.toNat = some b ∧ t.lcd.ddram = s.lcd.ddram ∧
          ∀ x, x ≠ a.toNat → Memory.read t.lcd.cgram x = Memory.read s.lcd.cgram x) ∧
      (∀ p, Place.step s.lcd.regs.inc s.lcd.regs.place = some p → t.lcd.regs.place = p) ∧
      t.lcd.regs = { s.lcd.regs with place := t.lcd.regs.place, view := t.lcd.regs.view } ∧
      (s.lcd.regs.shiftOn = false → t.lcd.regs.view = s.lcd.regs.view)) ∧
    (∀ i, encode i = .byte b → isFunctionSet b = false →
      ∃ t u, exec (.sendbyte b .command) s = .next t ∧ exec i s = .next u ∧
        t.lcd.regs = u.lcd.regs ∧ t.lcd.ddram = u.lcd.ddram ∧ t.lcd.cgram = u.lcd.cgram)
end

