-- ==== Sys2Proof/Laws/Memory.lean ====
section
/-! SUPPORT. The laws of the controller's memories: a write keeps the canonical form, a read after a write gives the value
written, and a write leaves every other cell as it was. -/

namespace Sys2Proof.Machine

theorem Memory.wf_nil : Memory.wf [] := List.Pairwise.nil

/-- A cell of a written memory is the new cell or an old one. -/
theorem Memory.mem_write {m : Memory} {a : Nat} {b : Byte} {c : Host.Cell} (h : c ∈ Memory.write m a b) :
    c = (a, b) ∨ c ∈ m := by
  induction m with
  | nil => simpa [Memory.write] using h
  | cons d ds ih =>
    unfold Memory.write at h
    split at h
    · simpa using h
    · split at h
      · rcases List.mem_cons.mp h with h | h
        · exact .inl h
        · exact .inr (List.mem_cons_of_mem _ h)
      · rcases List.mem_cons.mp h with h | h
        · exact .inr (h ▸ List.mem_cons_self ..)
        · rcases ih h with h | h
          · exact .inl h
          · exact .inr (List.mem_cons_of_mem _ h)

theorem Memory.write_wf {m : Memory} (a : Nat) (b : Byte) (h : Memory.wf m) : Memory.wf (Memory.write m a b) := by
  induction m with
  | nil => exact List.pairwise_singleton _ _
  | cons d ds ih =>
    have hd := List.pairwise_cons.mp h
    unfold Memory.write
    split
    · rename_i hlt
      refine List.pairwise_cons.mpr ⟨fun c hc => ?_, h⟩
      rcases List.mem_cons.mp hc with rfl | hc
      · exact hlt
      · exact Nat.lt_trans hlt (hd.1 c hc)
    · split
      · rename_i hge heq
        exact List.pairwise_cons.mpr ⟨fun c hc => by simpa [heq] using hd.1 c hc, hd.2⟩
      · rename_i hge hne
        refine List.pairwise_cons.mpr ⟨fun c hc => ?_, ih hd.2⟩
        rcases Memory.mem_write hc with rfl | hc
        · simp only; omega
        · exact hd.1 c hc

theorem Memory.read_write_same (m : Memory) (a : Nat) (b : Byte) : Memory.read (Memory.write m a b) a = some b := by
  induction m with
  | nil => simp [Memory.write, Memory.read]
  | cons d ds ih =>
    unfold Memory.write
    split
    · simp [Memory.read]
    · split
      · simp [Memory.read]
      · rename_i h
        simp [Memory.read, Ne.symm h, ih]

theorem Memory.read_write_other (m : Memory) {a x : Nat} (b : Byte) (hx : x ≠ a) :
    Memory.read (Memory.write m a b) x = Memory.read m x := by
  induction m with
  | nil => simp [Memory.write, Memory.read, Ne.symm hx]
  | cons d ds ih =>
    unfold Memory.write
    split
    · simp [Memory.read, Ne.symm hx]
    · split
      · rename_i h
        simp [Memory.read, Ne.symm hx, ← h]
      · simp [Memory.read, ih]

/-- Every written address is the new one or was there before, so a bound on the addresses is kept. -/
theorem Memory.write_bound {m : Memory} {a n : Nat} (b : Byte) (ha : a < n) (h : ∀ c ∈ m, c.1 < n) :
    ∀ c ∈ Memory.write m a b, c.1 < n := by
  intro c hc
  rcases Memory.mem_write hc with rfl | hc
  · exact ha
  · exact h c hc

end Sys2Proof.Machine
end

