-- ==== Sys2Proof/Laws/State.lean ====
section
/-! SUPPORT. What each named update of the state does to each field, so that no proof unfolds a record update. -/

namespace Sys2Proof.Machine

variable (s : State)

/-! `State.record` -/
@[simp] theorem State.record_straps (e : PortEvent) : (s.record e).straps = s.straps := rfl
@[simp] theorem State.record_timerOn (e : PortEvent) : (s.record e).timerOn = s.timerOn := rfl
@[simp] theorem State.record_pauses (e : PortEvent) : (s.record e).pauses = s.pauses := rfl
@[simp] theorem State.record_resetReq (e : PortEvent) : (s.record e).resetReq = s.resetReq := rfl
@[simp] theorem State.record_cfg (e : PortEvent) : (s.record e).cfg = s.cfg := rfl
@[simp] theorem State.record_initialized (e : PortEvent) : (s.record e).initialized = s.initialized := rfl
@[simp] theorem State.record_initState (e : PortEvent) : (s.record e).initState = s.initState := rfl
@[simp] theorem State.record_busy (e : PortEvent) : (s.record e).busy = s.busy := rfl
@[simp] theorem State.record_upc (e : PortEvent) : (s.record e).upc = s.upc := rfl
@[simp] theorem State.record_seq (e : PortEvent) : (s.record e).seq = s.seq := rfl
@[simp] theorem State.record_timer (e : PortEvent) : (s.record e).timer = s.timer := rfl
@[simp] theorem State.record_op (e : PortEvent) : (s.record e).op = s.op := rfl
@[simp] theorem State.record_inFlight (e : PortEvent) : (s.record e).inFlight = s.inFlight := rfl
@[simp] theorem State.record_out (e : PortEvent) : (s.record e).out = s.out := rfl
@[simp] theorem State.record_lcd (e : PortEvent) : (s.record e).lcd = s.lcd := rfl
@[simp] theorem State.record_ctrlSync (e : PortEvent) : (s.record e).ctrlSync = s.ctrlSync := rfl
@[simp] theorem State.record_pending (e : PortEvent) : (s.record e).pending = s.pending := rfl
@[simp] theorem State.record_issuer (e : PortEvent) : (s.record e).issuer = s.issuer := rfl
@[simp] theorem State.record_answers (e : PortEvent) : (s.record e).answers = s.answers := rfl
@[simp] theorem State.record_draws (e : PortEvent) : (s.record e).draws = s.draws := rfl
@[simp] theorem State.record_trace (e : PortEvent) : (s.record e).trace = s.trace ++ [e] := rfl
@[simp] theorem State.record_latched (e : PortEvent) : (s.record e).latched = s.latched := rfl
@[simp] theorem State.record_replies (e : PortEvent) : (s.record e).replies = s.replies := rfl
@[simp] theorem State.record_elapsed (e : PortEvent) : (s.record e).elapsed = s.elapsed := rfl

/-! `State.takeAnswer` -/
@[simp] theorem State.takeAnswer_straps : (s.takeAnswer).straps = s.straps := rfl
@[simp] theorem State.takeAnswer_timerOn : (s.takeAnswer).timerOn = s.timerOn := rfl
@[simp] theorem State.takeAnswer_pauses : (s.takeAnswer).pauses = s.pauses := rfl
@[simp] theorem State.takeAnswer_resetReq : (s.takeAnswer).resetReq = s.resetReq := rfl
@[simp] theorem State.takeAnswer_cfg : (s.takeAnswer).cfg = s.cfg := rfl
@[simp] theorem State.takeAnswer_initialized : (s.takeAnswer).initialized = s.initialized := rfl
@[simp] theorem State.takeAnswer_initState : (s.takeAnswer).initState = s.initState := rfl
@[simp] theorem State.takeAnswer_busy : (s.takeAnswer).busy = s.busy := rfl
@[simp] theorem State.takeAnswer_upc : (s.takeAnswer).upc = s.upc := rfl
@[simp] theorem State.takeAnswer_seq : (s.takeAnswer).seq = s.seq := rfl
@[simp] theorem State.takeAnswer_timer : (s.takeAnswer).timer = s.timer := rfl
@[simp] theorem State.takeAnswer_op : (s.takeAnswer).op = s.op := rfl
@[simp] theorem State.takeAnswer_inFlight : (s.takeAnswer).inFlight = s.inFlight := rfl
@[simp] theorem State.takeAnswer_out : (s.takeAnswer).out = s.out := rfl
@[simp] theorem State.takeAnswer_lcd : (s.takeAnswer).lcd = s.lcd := rfl
@[simp] theorem State.takeAnswer_ctrlSync : (s.takeAnswer).ctrlSync = s.ctrlSync := rfl
@[simp] theorem State.takeAnswer_pending : (s.takeAnswer).pending = s.pending := rfl
@[simp] theorem State.takeAnswer_issuer : (s.takeAnswer).issuer = s.issuer := rfl
@[simp] theorem State.takeAnswer_answers : (s.takeAnswer).answers = s.answers.tail := rfl
@[simp] theorem State.takeAnswer_draws : (s.takeAnswer).draws = s.draws + 1 := rfl
@[simp] theorem State.takeAnswer_trace : (s.takeAnswer).trace = s.trace := rfl
@[simp] theorem State.takeAnswer_latched : (s.takeAnswer).latched = s.latched := rfl
@[simp] theorem State.takeAnswer_replies : (s.takeAnswer).replies = s.replies := rfl
@[simp] theorem State.takeAnswer_elapsed : (s.takeAnswer).elapsed = s.elapsed := rfl

/-! `State.latchEvent` -/
@[simp] theorem State.latchEvent_straps : (s.latchEvent).straps = s.straps := rfl
@[simp] theorem State.latchEvent_timerOn : (s.latchEvent).timerOn = s.timerOn := rfl
@[simp] theorem State.latchEvent_pauses : (s.latchEvent).pauses = s.pauses := rfl
@[simp] theorem State.latchEvent_resetReq : (s.latchEvent).resetReq = s.resetReq := rfl
@[simp] theorem State.latchEvent_cfg : (s.latchEvent).cfg = s.cfg := rfl
@[simp] theorem State.latchEvent_initialized : (s.latchEvent).initialized = s.initialized := rfl
@[simp] theorem State.latchEvent_initState : (s.latchEvent).initState = s.initState := rfl
@[simp] theorem State.latchEvent_busy : (s.latchEvent).busy = s.busy := rfl
@[simp] theorem State.latchEvent_upc : (s.latchEvent).upc = s.upc := rfl
@[simp] theorem State.latchEvent_seq : (s.latchEvent).seq = s.seq := rfl
@[simp] theorem State.latchEvent_timer : (s.latchEvent).timer = s.timer := rfl
@[simp] theorem State.latchEvent_op : (s.latchEvent).op = s.op := rfl
@[simp] theorem State.latchEvent_inFlight : (s.latchEvent).inFlight = s.inFlight := rfl
@[simp] theorem State.latchEvent_out : (s.latchEvent).out = s.out := rfl
@[simp] theorem State.latchEvent_lcd : (s.latchEvent).lcd = s.lcd.latch s.draws s.cfg.timing.tClear (panelLatch s.cfg.pinmap s.out) := rfl
@[simp] theorem State.latchEvent_ctrlSync : (s.latchEvent).ctrlSync = s.ctrlSync := rfl
@[simp] theorem State.latchEvent_pending : (s.latchEvent).pending = s.pending := rfl
@[simp] theorem State.latchEvent_issuer : (s.latchEvent).issuer = s.issuer := rfl
@[simp] theorem State.latchEvent_answers : (s.latchEvent).answers = s.answers := rfl
@[simp] theorem State.latchEvent_draws : (s.latchEvent).draws = s.draws := rfl
@[simp] theorem State.latchEvent_trace : (s.latchEvent).trace = s.trace := rfl
@[simp] theorem State.latchEvent_latched : (s.latchEvent).latched = s.latched ++ [panelLatch s.cfg.pinmap s.out] := rfl
@[simp] theorem State.latchEvent_replies : (s.latchEvent).replies = s.replies := rfl
@[simp] theorem State.latchEvent_elapsed : (s.latchEvent).elapsed = s.elapsed := rfl

/-! `State.callFault` -/
@[simp] theorem State.callFault_straps : (s.callFault).straps = s.straps := rfl
@[simp] theorem State.callFault_timerOn : (s.callFault).timerOn = s.timerOn := rfl
@[simp] theorem State.callFault_pauses : (s.callFault).pauses = s.pauses := rfl
@[simp] theorem State.callFault_resetReq : (s.callFault).resetReq = s.resetReq := rfl
@[simp] theorem State.callFault_cfg : (s.callFault).cfg = s.cfg := rfl
@[simp] theorem State.callFault_initialized : (s.callFault).initialized = s.initialized := rfl
@[simp] theorem State.callFault_initState : (s.callFault).initState = s.initState := rfl
@[simp] theorem State.callFault_busy : (s.callFault).busy = s.busy := rfl
@[simp] theorem State.callFault_upc : (s.callFault).upc = s.upc := rfl
@[simp] theorem State.callFault_seq : (s.callFault).seq = s.seq := rfl
@[simp] theorem State.callFault_timer : (s.callFault).timer = s.timer := rfl
@[simp] theorem State.callFault_op : (s.callFault).op = s.op := rfl
@[simp] theorem State.callFault_inFlight : (s.callFault).inFlight = false := rfl
@[simp] theorem State.callFault_out : (s.callFault).out = Config.outAfterFault s.draws := rfl
@[simp] theorem State.callFault_lcd : (s.callFault).lcd = s.lcd := rfl
@[simp] theorem State.callFault_ctrlSync : (s.callFault).ctrlSync = s.ctrlSync := rfl
@[simp] theorem State.callFault_pending : (s.callFault).pending = s.pending := rfl
@[simp] theorem State.callFault_issuer : (s.callFault).issuer = s.issuer := rfl
@[simp] theorem State.callFault_answers : (s.callFault).answers = s.answers := rfl
@[simp] theorem State.callFault_draws : (s.callFault).draws = s.draws := rfl
@[simp] theorem State.callFault_trace : (s.callFault).trace = s.trace := rfl
@[simp] theorem State.callFault_latched : (s.callFault).latched = s.latched := rfl
@[simp] theorem State.callFault_replies : (s.callFault).replies = s.replies := rfl
@[simp] theorem State.callFault_elapsed : (s.callFault).elapsed = s.elapsed := rfl

/-! `State.loadTimer` -/
@[simp] theorem State.loadTimer_straps (d : Nat) : (s.loadTimer d).straps = s.straps := rfl
@[simp] theorem State.loadTimer_timerOn (d : Nat) : (s.loadTimer d).timerOn = true := rfl
@[simp] theorem State.loadTimer_pauses (d : Nat) : (s.loadTimer d).pauses = s.pauses := rfl
@[simp] theorem State.loadTimer_resetReq (d : Nat) : (s.loadTimer d).resetReq = s.resetReq := rfl
@[simp] theorem State.loadTimer_cfg (d : Nat) : (s.loadTimer d).cfg = s.cfg := rfl
@[simp] theorem State.loadTimer_initialized (d : Nat) : (s.loadTimer d).initialized = s.initialized := rfl
@[simp] theorem State.loadTimer_initState (d : Nat) : (s.loadTimer d).initState = s.initState := rfl
@[simp] theorem State.loadTimer_busy (d : Nat) : (s.loadTimer d).busy = s.busy := rfl
@[simp] theorem State.loadTimer_upc (d : Nat) : (s.loadTimer d).upc = s.upc := rfl
@[simp] theorem State.loadTimer_seq (d : Nat) : (s.loadTimer d).seq = s.seq := rfl
@[simp] theorem State.loadTimer_timer (d : Nat) : (s.loadTimer d).timer = Timing.waited s.cfg.timing d := rfl
@[simp] theorem State.loadTimer_op (d : Nat) : (s.loadTimer d).op = s.op := rfl
@[simp] theorem State.loadTimer_inFlight (d : Nat) : (s.loadTimer d).inFlight = s.inFlight := rfl
@[simp] theorem State.loadTimer_out (d : Nat) : (s.loadTimer d).out = s.out := rfl
@[simp] theorem State.loadTimer_lcd (d : Nat) : (s.loadTimer d).lcd = s.lcd := rfl
@[simp] theorem State.loadTimer_ctrlSync (d : Nat) : (s.loadTimer d).ctrlSync = s.ctrlSync := rfl
@[simp] theorem State.loadTimer_pending (d : Nat) : (s.loadTimer d).pending = s.pending := rfl
@[simp] theorem State.loadTimer_issuer (d : Nat) : (s.loadTimer d).issuer = s.issuer := rfl
@[simp] theorem State.loadTimer_answers (d : Nat) : (s.loadTimer d).answers = s.answers := rfl
@[simp] theorem State.loadTimer_draws (d : Nat) : (s.loadTimer d).draws = s.draws := rfl
@[simp] theorem State.loadTimer_trace (d : Nat) : (s.loadTimer d).trace = s.trace := rfl
@[simp] theorem State.loadTimer_latched (d : Nat) : (s.loadTimer d).latched = s.latched := rfl
@[simp] theorem State.loadTimer_replies (d : Nat) : (s.loadTimer d).replies = s.replies := rfl
@[simp] theorem State.loadTimer_elapsed (d : Nat) : (s.loadTimer d).elapsed = s.elapsed := rfl

/-! `State.runTimer` -/
@[simp] theorem State.runTimer_straps : (s.runTimer).straps = s.straps := rfl
@[simp] theorem State.runTimer_timerOn : (s.runTimer).timerOn = false := rfl
@[simp] theorem State.runTimer_pauses : (s.runTimer).pauses = s.pauses := rfl
@[simp] theorem State.runTimer_resetReq : (s.runTimer).resetReq = s.resetReq := rfl
@[simp] theorem State.runTimer_cfg : (s.runTimer).cfg = s.cfg := rfl
@[simp] theorem State.runTimer_initialized : (s.runTimer).initialized = s.initialized := rfl
@[simp] theorem State.runTimer_initState : (s.runTimer).initState = s.initState := rfl
@[simp] theorem State.runTimer_busy : (s.runTimer).busy = s.busy := rfl
@[simp] theorem State.runTimer_upc : (s.runTimer).upc = s.upc := rfl
@[simp] theorem State.runTimer_seq : (s.runTimer).seq = s.seq := rfl
@[simp] theorem State.runTimer_timer : (s.runTimer).timer = 0 := rfl
@[simp] theorem State.runTimer_op : (s.runTimer).op = s.op := rfl
@[simp] theorem State.runTimer_inFlight : (s.runTimer).inFlight = s.inFlight := rfl
@[simp] theorem State.runTimer_out : (s.runTimer).out = s.out := rfl
@[simp] theorem State.runTimer_lcd : (s.runTimer).lcd = s.lcd.rest s.timer := rfl
@[simp] theorem State.runTimer_ctrlSync : (s.runTimer).ctrlSync = s.ctrlSync := rfl
@[simp] theorem State.runTimer_pending : (s.runTimer).pending = s.pending := rfl
@[simp] theorem State.runTimer_issuer : (s.runTimer).issuer = s.issuer := rfl
@[simp] theorem State.runTimer_answers : (s.runTimer).answers = s.answers := rfl
@[simp] theorem State.runTimer_draws : (s.runTimer).draws = s.draws := rfl
@[simp] theorem State.runTimer_trace : (s.runTimer).trace = s.trace := rfl
@[simp] theorem State.runTimer_latched : (s.runTimer).latched = s.latched := rfl
@[simp] theorem State.runTimer_replies : (s.runTimer).replies = s.replies := rfl
@[simp] theorem State.runTimer_elapsed : (s.runTimer).elapsed = s.elapsed + s.timer := rfl

/-! `State.startWait` -/
@[simp] theorem State.startWait_straps (d : Nat) : (s.startWait d).straps = s.straps := by
  unfold State.startWait; split <;> rfl
@[simp] theorem State.startWait_timerOn (d : Nat) : (s.startWait d).timerOn = true := by
  unfold State.startWait; split
  · assumption
  · rfl
@[simp] theorem State.startWait_pauses (d : Nat) : (s.startWait d).pauses = s.pauses := by
  unfold State.startWait; split <;> rfl
@[simp] theorem State.startWait_resetReq (d : Nat) : (s.startWait d).resetReq = s.resetReq := by
  unfold State.startWait; split <;> rfl
@[simp] theorem State.startWait_cfg (d : Nat) : (s.startWait d).cfg = s.cfg := by
  unfold State.startWait; split <;> rfl
@[simp] theorem State.startWait_initialized (d : Nat) : (s.startWait d).initialized = s.initialized := by
  unfold State.startWait; split <;> rfl
@[simp] theorem State.startWait_initState (d : Nat) : (s.startWait d).initState = s.initState := by
  unfold State.startWait; split <;> rfl
@[simp] theorem State.startWait_busy (d : Nat) : (s.startWait d).busy = s.busy := by
  unfold State.startWait; split <;> rfl
@[simp] theorem State.startWait_upc (d : Nat) : (s.startWait d).upc = s.upc := by
  unfold State.startWait; split <;> rfl
@[simp] theorem State.startWait_seq (d : Nat) : (s.startWait d).seq = s.seq := by
  unfold State.startWait; split <;> rfl
theorem State.startWait_timer (d : Nat) (h : s.timerOn = false) :
    (s.startWait d).timer = Timing.waited s.cfg.timing d := by
  simp [State.startWait, h]
@[simp] theorem State.startWait_op (d : Nat) : (s.startWait d).op = s.op := by
  unfold State.startWait; split <;> rfl
@[simp] theorem State.startWait_inFlight (d : Nat) : (s.startWait d).inFlight = s.inFlight := by
  unfold State.startWait; split <;> rfl
@[simp] theorem State.startWait_out (d : Nat) : (s.startWait d).out = s.out := by
  unfold State.startWait; split <;> rfl
@[simp] theorem State.startWait_lcd (d : Nat) : (s.startWait d).lcd = s.lcd := by
  unfold State.startWait; split <;> rfl
@[simp] theorem State.startWait_ctrlSync (d : Nat) : (s.startWait d).ctrlSync = s.ctrlSync := by
  unfold State.startWait; split <;> rfl
@[simp] theorem State.startWait_pending (d : Nat) : (s.startWait d).pending = s.pending := by
  unfold State.startWait; split <;> rfl
@[simp] theorem State.startWait_issuer (d : Nat) : (s.startWait d).issuer = s.issuer := by
  unfold State.startWait; split <;> rfl
@[simp] theorem State.startWait_answers (d : Nat) : (s.startWait d).answers = s.answers := by
  unfold State.startWait; split <;> rfl
@[simp] theorem State.startWait_draws (d : Nat) : (s.startWait d).draws = s.draws := by
  unfold State.startWait; split <;> rfl
@[simp] theorem State.startWait_trace (d : Nat) :
    (s.startWait d).trace = if s.timerOn then s.trace else s.trace ++ [.wait d] := by
  unfold State.startWait; split <;> rfl
@[simp] theorem State.startWait_latched (d : Nat) : (s.startWait d).latched = s.latched := by
  unfold State.startWait; split <;> rfl
@[simp] theorem State.startWait_replies (d : Nat) : (s.startWait d).replies = s.replies := by
  unfold State.startWait; split <;> rfl
@[simp] theorem State.startWait_elapsed (d : Nat) : (s.startWait d).elapsed = s.elapsed := by
  unfold State.startWait; split <;> rfl

/-! `State.passTime` -/
@[simp] theorem State.passTime_straps (us : Nat) : (s.passTime us).straps = s.straps := rfl
@[simp] theorem State.passTime_timerOn (us : Nat) : (s.passTime us).timerOn = s.timerOn := rfl
@[simp] theorem State.passTime_pauses (us : Nat) : (s.passTime us).pauses = s.pauses := rfl
@[simp] theorem State.passTime_resetReq (us : Nat) : (s.passTime us).resetReq = s.resetReq := rfl
@[simp] theorem State.passTime_cfg (us : Nat) : (s.passTime us).cfg = s.cfg := rfl
@[simp] theorem State.passTime_initialized (us : Nat) : (s.passTime us).initialized = s.initialized := rfl
@[simp] theorem State.passTime_initState (us : Nat) : (s.passTime us).initState = s.initState := rfl
@[simp] theorem State.passTime_busy (us : Nat) : (s.passTime us).busy = s.busy := rfl
@[simp] theorem State.passTime_upc (us : Nat) : (s.passTime us).upc = s.upc := rfl
@[simp] theorem State.passTime_seq (us : Nat) : (s.passTime us).seq = s.seq := rfl
@[simp] theorem State.passTime_timer (us : Nat) : (s.passTime us).timer = s.timer - min us s.timer := rfl
@[simp] theorem State.passTime_op (us : Nat) : (s.passTime us).op = s.op := rfl
@[simp] theorem State.passTime_inFlight (us : Nat) : (s.passTime us).inFlight = s.inFlight := rfl
@[simp] theorem State.passTime_out (us : Nat) : (s.passTime us).out = s.out := rfl
@[simp] theorem State.passTime_lcd (us : Nat) : (s.passTime us).lcd = s.lcd.rest (min us s.timer) := rfl
@[simp] theorem State.passTime_ctrlSync (us : Nat) : (s.passTime us).ctrlSync = s.ctrlSync := rfl
@[simp] theorem State.passTime_pending (us : Nat) : (s.passTime us).pending = s.pending := rfl
@[simp] theorem State.passTime_issuer (us : Nat) : (s.passTime us).issuer = s.issuer := rfl
@[simp] theorem State.passTime_answers (us : Nat) : (s.passTime us).answers = s.answers := rfl
@[simp] theorem State.passTime_draws (us : Nat) : (s.passTime us).draws = s.draws := rfl
@[simp] theorem State.passTime_trace (us : Nat) : (s.passTime us).trace = s.trace := rfl
@[simp] theorem State.passTime_latched (us : Nat) : (s.passTime us).latched = s.latched := rfl
@[simp] theorem State.passTime_replies (us : Nat) : (s.passTime us).replies = s.replies := rfl
@[simp] theorem State.passTime_elapsed (us : Nat) : (s.passTime us).elapsed = s.elapsed + min us s.timer := rfl

/-! `State.wait` -/
@[simp] theorem State.wait_straps (d : Nat) : (s.wait d).straps = s.straps := by
  simp [State.wait]
@[simp] theorem State.wait_timerOn (d : Nat) : (s.wait d).timerOn = false := rfl
@[simp] theorem State.wait_pauses (d : Nat) : (s.wait d).pauses = s.pauses := by
  simp [State.wait]
@[simp] theorem State.wait_resetReq (d : Nat) : (s.wait d).resetReq = s.resetReq := by
  simp [State.wait]
@[simp] theorem State.wait_cfg (d : Nat) : (s.wait d).cfg = s.cfg := by
  simp [State.wait]
@[simp] theorem State.wait_initialized (d : Nat) : (s.wait d).initialized = s.initialized := by
  simp [State.wait]
@[simp] theorem State.wait_initState (d : Nat) : (s.wait d).initState = s.initState := by
  simp [State.wait]
@[simp] theorem State.wait_busy (d : Nat) : (s.wait d).busy = s.busy := by
  simp [State.wait]
@[simp] theorem State.wait_upc (d : Nat) : (s.wait d).upc = s.upc := by
  simp [State.wait]
@[simp] theorem State.wait_seq (d : Nat) : (s.wait d).seq = s.seq := by
  simp [State.wait]
@[simp] theorem State.wait_timer (d : Nat) : (s.wait d).timer = 0 := rfl
@[simp] theorem State.wait_op (d : Nat) : (s.wait d).op = s.op := by
  simp [State.wait]
@[simp] theorem State.wait_inFlight (d : Nat) : (s.wait d).inFlight = s.inFlight := by
  simp [State.wait]
@[simp] theorem State.wait_out (d : Nat) : (s.wait d).out = s.out := by
  simp [State.wait]
theorem State.wait_lcd (d : Nat) (h : s.timerOn = false) : (s.wait d).lcd = s.lcd.rest (Timing.waited s.cfg.timing d) := by
  simp [State.wait, State.startWait, h]
@[simp] theorem State.wait_ctrlSync (d : Nat) : (s.wait d).ctrlSync = s.ctrlSync := by
  simp [State.wait]
@[simp] theorem State.wait_pending (d : Nat) : (s.wait d).pending = s.pending := by
  simp [State.wait]
@[simp] theorem State.wait_issuer (d : Nat) : (s.wait d).issuer = s.issuer := by
  simp [State.wait]
@[simp] theorem State.wait_answers (d : Nat) : (s.wait d).answers = s.answers := by
  simp [State.wait]
@[simp] theorem State.wait_draws (d : Nat) : (s.wait d).draws = s.draws := by
  simp [State.wait]
@[simp] theorem State.wait_trace (d : Nat) : (s.wait d).trace = if s.timerOn then s.trace else s.trace ++ [.wait d] := by
  simp [State.wait]
@[simp] theorem State.wait_latched (d : Nat) : (s.wait d).latched = s.latched := by
  simp [State.wait]
@[simp] theorem State.wait_replies (d : Nat) : (s.wait d).replies = s.replies := by
  simp [State.wait]
theorem State.wait_elapsed (d : Nat) (h : s.timerOn = false) :
    (s.wait d).elapsed = s.elapsed + Timing.waited s.cfg.timing d := by
  simp [State.wait, State.startWait, h]

/-! `State.losePanel` -/
@[simp] theorem State.losePanel_straps : (s.losePanel).straps = s.straps := rfl
@[simp] theorem State.losePanel_timerOn : (s.losePanel).timerOn = s.timerOn := rfl
@[simp] theorem State.losePanel_pauses : (s.losePanel).pauses = s.pauses := rfl
@[simp] theorem State.losePanel_resetReq : (s.losePanel).resetReq = s.resetReq := rfl
@[simp] theorem State.losePanel_cfg : (s.losePanel).cfg = s.cfg := rfl
@[simp] theorem State.losePanel_initialized : (s.losePanel).initialized = s.initialized := rfl
@[simp] theorem State.losePanel_initState : (s.losePanel).initState = s.initState := rfl
@[simp] theorem State.losePanel_busy : (s.losePanel).busy = s.busy := rfl
@[simp] theorem State.losePanel_upc : (s.losePanel).upc = s.upc := rfl
@[simp] theorem State.losePanel_seq : (s.losePanel).seq = s.seq := rfl
@[simp] theorem State.losePanel_timer : (s.losePanel).timer = s.timer := rfl
@[simp] theorem State.losePanel_op : (s.losePanel).op = s.op := rfl
@[simp] theorem State.losePanel_inFlight : (s.losePanel).inFlight = s.inFlight := rfl
@[simp] theorem State.losePanel_out : (s.losePanel).out = s.out := rfl
@[simp] theorem State.losePanel_lcd : (s.losePanel).lcd = Lcd.lost s.draws := rfl
@[simp] theorem State.losePanel_ctrlSync : (s.losePanel).ctrlSync = .unknown := rfl
@[simp] theorem State.losePanel_pending : (s.losePanel).pending = s.pending := rfl
@[simp] theorem State.losePanel_issuer : (s.losePanel).issuer = s.issuer := rfl
@[simp] theorem State.losePanel_answers : (s.losePanel).answers = s.answers := rfl
@[simp] theorem State.losePanel_draws : (s.losePanel).draws = s.draws := rfl
@[simp] theorem State.losePanel_trace : (s.losePanel).trace = s.trace := rfl
@[simp] theorem State.losePanel_latched : (s.losePanel).latched = s.latched := rfl
@[simp] theorem State.losePanel_replies : (s.losePanel).replies = s.replies := rfl
@[simp] theorem State.losePanel_elapsed : (s.losePanel).elapsed = s.elapsed := rfl

/-! `State.panelReady` -/
@[simp] theorem State.panelReady_straps : (s.panelReady).straps = s.straps := rfl
@[simp] theorem State.panelReady_timerOn : (s.panelReady).timerOn = s.timerOn := rfl
@[simp] theorem State.panelReady_pauses : (s.panelReady).pauses = s.pauses := rfl
@[simp] theorem State.panelReady_resetReq : (s.panelReady).resetReq = s.resetReq := rfl
@[simp] theorem State.panelReady_cfg : (s.panelReady).cfg = s.cfg := rfl
@[simp] theorem State.panelReady_initialized : (s.panelReady).initialized = s.initialized := rfl
@[simp] theorem State.panelReady_initState : (s.panelReady).initState = s.initState := rfl
@[simp] theorem State.panelReady_busy : (s.panelReady).busy = s.busy := rfl
@[simp] theorem State.panelReady_upc : (s.panelReady).upc = s.upc := rfl
@[simp] theorem State.panelReady_seq : (s.panelReady).seq = s.seq := rfl
@[simp] theorem State.panelReady_timer : (s.panelReady).timer = s.timer := rfl
@[simp] theorem State.panelReady_op : (s.panelReady).op = s.op := rfl
@[simp] theorem State.panelReady_inFlight : (s.panelReady).inFlight = s.inFlight := rfl
@[simp] theorem State.panelReady_out : (s.panelReady).out = s.out := rfl
@[simp] theorem State.panelReady_ctrlSync : (s.panelReady).ctrlSync = .inSync := rfl
@[simp] theorem State.panelReady_pending : (s.panelReady).pending = s.pending := rfl
@[simp] theorem State.panelReady_issuer : (s.panelReady).issuer = s.issuer := rfl
@[simp] theorem State.panelReady_answers : (s.panelReady).answers = s.answers := rfl
@[simp] theorem State.panelReady_draws : (s.panelReady).draws = s.draws := rfl
@[simp] theorem State.panelReady_trace : (s.panelReady).trace = s.trace := rfl
@[simp] theorem State.panelReady_latched : (s.panelReady).latched = s.latched := rfl
@[simp] theorem State.panelReady_replies : (s.panelReady).replies = s.replies := rfl
@[simp] theorem State.panelReady_elapsed : (s.panelReady).elapsed = s.elapsed := rfl

/-! `State.reply` -/
@[simp] theorem State.reply_straps (st : Status) : (s.reply st).straps = s.straps := rfl
@[simp] theorem State.reply_timerOn (st : Status) : (s.reply st).timerOn = s.timerOn := rfl
@[simp] theorem State.reply_pauses (st : Status) : (s.reply st).pauses = s.pauses := rfl
@[simp] theorem State.reply_resetReq (st : Status) : (s.reply st).resetReq = s.resetReq := rfl
@[simp] theorem State.reply_cfg (st : Status) : (s.reply st).cfg = s.cfg := rfl
@[simp] theorem State.reply_initialized (st : Status) : (s.reply st).initialized = s.initialized := rfl
@[simp] theorem State.reply_initState (st : Status) : (s.reply st).initState = s.initState := rfl
@[simp] theorem State.reply_busy (st : Status) : (s.reply st).busy = s.busy := rfl
@[simp] theorem State.reply_upc (st : Status) : (s.reply st).upc = s.upc := rfl
@[simp] theorem State.reply_seq (st : Status) : (s.reply st).seq = s.seq := rfl
@[simp] theorem State.reply_timer (st : Status) : (s.reply st).timer = s.timer := rfl
@[simp] theorem State.reply_op (st : Status) : (s.reply st).op = s.op := rfl
@[simp] theorem State.reply_inFlight (st : Status) : (s.reply st).inFlight = s.inFlight := rfl
@[simp] theorem State.reply_out (st : Status) : (s.reply st).out = s.out := rfl
@[simp] theorem State.reply_lcd (st : Status) : (s.reply st).lcd = s.lcd := rfl
@[simp] theorem State.reply_ctrlSync (st : Status) : (s.reply st).ctrlSync = s.ctrlSync := rfl
@[simp] theorem State.reply_pending (st : Status) : (s.reply st).pending = s.pending := rfl
@[simp] theorem State.reply_issuer (st : Status) : (s.reply st).issuer = s.issuer := rfl
@[simp] theorem State.reply_answers (st : Status) : (s.reply st).answers = s.answers := rfl
@[simp] theorem State.reply_draws (st : Status) : (s.reply st).draws = s.draws := rfl
@[simp] theorem State.reply_trace (st : Status) : (s.reply st).trace = s.trace := rfl
@[simp] theorem State.reply_latched (st : Status) : (s.reply st).latched = s.latched := rfl
@[simp] theorem State.reply_replies (st : Status) : (s.reply st).replies = s.replies ++ [⟨s.issuer, st⟩] := rfl
@[simp] theorem State.reply_elapsed (st : Status) : (s.reply st).elapsed = s.elapsed := rfl

/-! `State.complete` -/
@[simp] theorem State.complete_straps (st : Status) : (s.complete st).straps = s.straps := rfl
@[simp] theorem State.complete_timerOn (st : Status) : (s.complete st).timerOn = s.timerOn := rfl
@[simp] theorem State.complete_pauses (st : Status) : (s.complete st).pauses = s.pauses := rfl
@[simp] theorem State.complete_resetReq (st : Status) : (s.complete st).resetReq = s.resetReq := rfl
@[simp] theorem State.complete_cfg (st : Status) : (s.complete st).cfg = s.cfg := rfl
@[simp] theorem State.complete_initialized (st : Status) : (s.complete st).initialized = s.initialized := rfl
@[simp] theorem State.complete_initState (st : Status) : (s.complete st).initState = s.initState := rfl
@[simp] theorem State.complete_busy (st : Status) : (s.complete st).busy = false := rfl
@[simp] theorem State.complete_upc (st : Status) : (s.complete st).upc = s.upc := rfl
@[simp] theorem State.complete_seq (st : Status) : (s.complete st).seq = s.seq := rfl
@[simp] theorem State.complete_timer (st : Status) : (s.complete st).timer = s.timer := rfl
@[simp] theorem State.complete_op (st : Status) : (s.complete st).op = s.op := rfl
@[simp] theorem State.complete_inFlight (st : Status) : (s.complete st).inFlight = s.inFlight := rfl
@[simp] theorem State.complete_out (st : Status) : (s.complete st).out = s.out := rfl
@[simp] theorem State.complete_lcd (st : Status) : (s.complete st).lcd = s.lcd := rfl
@[simp] theorem State.complete_ctrlSync (st : Status) : (s.complete st).ctrlSync = s.ctrlSync := rfl
@[simp] theorem State.complete_pending (st : Status) : (s.complete st).pending = s.pending := rfl
@[simp] theorem State.complete_issuer (st : Status) : (s.complete st).issuer = s.issuer := rfl
@[simp] theorem State.complete_answers (st : Status) : (s.complete st).answers = s.answers := rfl
@[simp] theorem State.complete_draws (st : Status) : (s.complete st).draws = s.draws := rfl
@[simp] theorem State.complete_trace (st : Status) : (s.complete st).trace = s.trace := rfl
@[simp] theorem State.complete_latched (st : Status) : (s.complete st).latched = s.latched := rfl
@[simp] theorem State.complete_replies (st : Status) : (s.complete st).replies = s.replies ++ [⟨s.issuer, st⟩] := rfl
@[simp] theorem State.complete_elapsed (st : Status) : (s.complete st).elapsed = s.elapsed := rfl

/-! `State.raise` -/
@[simp] theorem State.raise_straps (st : Status) : (s.raise st).straps = s.straps := rfl
@[simp] theorem State.raise_timerOn (st : Status) : (s.raise st).timerOn = s.timerOn := rfl
@[simp] theorem State.raise_pauses (st : Status) : (s.raise st).pauses = s.pauses := rfl
@[simp] theorem State.raise_resetReq (st : Status) : (s.raise st).resetReq = s.resetReq := rfl
@[simp] theorem State.raise_cfg (st : Status) : (s.raise st).cfg = s.cfg := rfl
@[simp] theorem State.raise_initialized (st : Status) : (s.raise st).initialized = s.initialized := rfl
@[simp] theorem State.raise_initState (st : Status) : (s.raise st).initState = s.initState := rfl
@[simp] theorem State.raise_busy (st : Status) : (s.raise st).busy = false := rfl
@[simp] theorem State.raise_upc (st : Status) : (s.raise st).upc = s.upc := rfl
@[simp] theorem State.raise_seq (st : Status) : (s.raise st).seq = s.seq := rfl
@[simp] theorem State.raise_timer (st : Status) : (s.raise st).timer = s.timer := rfl
@[simp] theorem State.raise_op (st : Status) : (s.raise st).op = s.op := rfl
@[simp] theorem State.raise_inFlight (st : Status) : (s.raise st).inFlight = s.inFlight := rfl
@[simp] theorem State.raise_out (st : Status) : (s.raise st).out = s.out := rfl
@[simp] theorem State.raise_lcd (st : Status) : (s.raise st).lcd = s.lcd := rfl
@[simp] theorem State.raise_ctrlSync (st : Status) : (s.raise st).ctrlSync = s.ctrlSync := rfl
@[simp] theorem State.raise_pending (st : Status) : (s.raise st).pending = s.pending := rfl
@[simp] theorem State.raise_issuer (st : Status) : (s.raise st).issuer = s.issuer := rfl
@[simp] theorem State.raise_answers (st : Status) : (s.raise st).answers = s.answers := rfl
@[simp] theorem State.raise_draws (st : Status) : (s.raise st).draws = s.draws := rfl
@[simp] theorem State.raise_trace (st : Status) : (s.raise st).trace = s.trace := rfl
@[simp] theorem State.raise_latched (st : Status) : (s.raise st).latched = s.latched := rfl
@[simp] theorem State.raise_replies (st : Status) : (s.raise st).replies = s.replies ++ [⟨s.issuer, st⟩] := rfl
@[simp] theorem State.raise_elapsed (st : Status) : (s.raise st).elapsed = s.elapsed := rfl

/-! `State.begin` -/
@[simp] theorem State.begin_straps (i : Instr) : (s.begin i).straps = s.straps := rfl
@[simp] theorem State.begin_timerOn (i : Instr) : (s.begin i).timerOn = false := rfl
@[simp] theorem State.begin_pauses (i : Instr) : (s.begin i).pauses = s.pauses := rfl
@[simp] theorem State.begin_resetReq (i : Instr) : (s.begin i).resetReq = s.resetReq := rfl
@[simp] theorem State.begin_cfg (i : Instr) : (s.begin i).cfg = s.cfg := rfl
@[simp] theorem State.begin_initialized (i : Instr) : (s.begin i).initialized = s.initialized := rfl
@[simp] theorem State.begin_initState (i : Instr) : (s.begin i).initState = s.initState := rfl
@[simp] theorem State.begin_busy (i : Instr) : (s.begin i).busy = true := rfl
@[simp] theorem State.begin_upc (i : Instr) : (s.begin i).upc = s.upc := rfl
@[simp] theorem State.begin_seq (i : Instr) : (s.begin i).seq = s.seq := rfl
@[simp] theorem State.begin_timer (i : Instr) : (s.begin i).timer = s.timer := rfl
@[simp] theorem State.begin_op (i : Instr) : (s.begin i).op = some i := rfl
@[simp] theorem State.begin_inFlight (i : Instr) : (s.begin i).inFlight = false := rfl
@[simp] theorem State.begin_out (i : Instr) : (s.begin i).out = s.out := rfl
@[simp] theorem State.begin_lcd (i : Instr) : (s.begin i).lcd = s.lcd := rfl
@[simp] theorem State.begin_ctrlSync (i : Instr) : (s.begin i).ctrlSync = s.ctrlSync := rfl
@[simp] theorem State.begin_pending (i : Instr) : (s.begin i).pending = s.pending := rfl
@[simp] theorem State.begin_issuer (i : Instr) : (s.begin i).issuer = s.issuer := rfl
@[simp] theorem State.begin_answers (i : Instr) : (s.begin i).answers = s.answers := rfl
@[simp] theorem State.begin_draws (i : Instr) : (s.begin i).draws = s.draws := rfl
@[simp] theorem State.begin_trace (i : Instr) : (s.begin i).trace = s.trace := rfl
@[simp] theorem State.begin_latched (i : Instr) : (s.begin i).latched = s.latched := rfl
@[simp] theorem State.begin_replies (i : Instr) : (s.begin i).replies = s.replies := rfl
@[simp] theorem State.begin_elapsed (i : Instr) : (s.begin i).elapsed = s.elapsed := rfl

/-! `State.load` -/
@[simp] theorem State.load_straps (ops : List MicroOp) : (s.load ops).straps = s.straps := rfl
@[simp] theorem State.load_timerOn (ops : List MicroOp) : (s.load ops).timerOn = s.timerOn := rfl
@[simp] theorem State.load_pauses (ops : List MicroOp) : (s.load ops).pauses = s.pauses := rfl
@[simp] theorem State.load_resetReq (ops : List MicroOp) : (s.load ops).resetReq = s.resetReq := rfl
@[simp] theorem State.load_cfg (ops : List MicroOp) : (s.load ops).cfg = s.cfg := rfl
@[simp] theorem State.load_initialized (ops : List MicroOp) : (s.load ops).initialized = s.initialized := rfl
@[simp] theorem State.load_initState (ops : List MicroOp) : (s.load ops).initState = s.initState := rfl
@[simp] theorem State.load_busy (ops : List MicroOp) : (s.load ops).busy = s.busy := rfl
@[simp] theorem State.load_upc (ops : List MicroOp) : (s.load ops).upc = 0 := rfl
@[simp] theorem State.load_seq (ops : List MicroOp) : (s.load ops).seq = ops := rfl
@[simp] theorem State.load_timer (ops : List MicroOp) : (s.load ops).timer = s.timer := rfl
@[simp] theorem State.load_op (ops : List MicroOp) : (s.load ops).op = s.op := rfl
@[simp] theorem State.load_inFlight (ops : List MicroOp) : (s.load ops).inFlight = s.inFlight := rfl
@[simp] theorem State.load_out (ops : List MicroOp) : (s.load ops).out = s.out := rfl
@[simp] theorem State.load_lcd (ops : List MicroOp) : (s.load ops).lcd = s.lcd := rfl
@[simp] theorem State.load_ctrlSync (ops : List MicroOp) : (s.load ops).ctrlSync = s.ctrlSync := rfl
@[simp] theorem State.load_pending (ops : List MicroOp) : (s.load ops).pending = s.pending := rfl
@[simp] theorem State.load_issuer (ops : List MicroOp) : (s.load ops).issuer = s.issuer := rfl
@[simp] theorem State.load_answers (ops : List MicroOp) : (s.load ops).answers = s.answers := rfl
@[simp] theorem State.load_draws (ops : List MicroOp) : (s.load ops).draws = s.draws := rfl
@[simp] theorem State.load_trace (ops : List MicroOp) : (s.load ops).trace = s.trace := rfl
@[simp] theorem State.load_latched (ops : List MicroOp) : (s.load ops).latched = s.latched := rfl
@[simp] theorem State.load_replies (ops : List MicroOp) : (s.load ops).replies = s.replies := rfl
@[simp] theorem State.load_elapsed (ops : List MicroOp) : (s.load ops).elapsed = s.elapsed := rfl

/-! `State.advance` -/
@[simp] theorem State.advance_straps : (s.advance).straps = s.straps := rfl
@[simp] theorem State.advance_timerOn : (s.advance).timerOn = s.timerOn := rfl
@[simp] theorem State.advance_pauses : (s.advance).pauses = s.pauses := rfl
@[simp] theorem State.advance_resetReq : (s.advance).resetReq = s.resetReq := rfl
@[simp] theorem State.advance_cfg : (s.advance).cfg = s.cfg := rfl
@[simp] theorem State.advance_initialized : (s.advance).initialized = s.initialized := rfl
@[simp] theorem State.advance_initState : (s.advance).initState = s.initState := rfl
@[simp] theorem State.advance_busy : (s.advance).busy = s.busy := rfl
@[simp] theorem State.advance_upc : (s.advance).upc = s.upc + 1 := rfl
@[simp] theorem State.advance_seq : (s.advance).seq = s.seq := rfl
@[simp] theorem State.advance_timer : (s.advance).timer = s.timer := rfl
@[simp] theorem State.advance_op : (s.advance).op = s.op := rfl
@[simp] theorem State.advance_inFlight : (s.advance).inFlight = s.inFlight := rfl
@[simp] theorem State.advance_out : (s.advance).out = s.out := rfl
@[simp] theorem State.advance_lcd : (s.advance).lcd = s.lcd := rfl
@[simp] theorem State.advance_ctrlSync : (s.advance).ctrlSync = s.ctrlSync := rfl
@[simp] theorem State.advance_pending : (s.advance).pending = s.pending := rfl
@[simp] theorem State.advance_issuer : (s.advance).issuer = s.issuer := rfl
@[simp] theorem State.advance_answers : (s.advance).answers = s.answers := rfl
@[simp] theorem State.advance_draws : (s.advance).draws = s.draws := rfl
@[simp] theorem State.advance_trace : (s.advance).trace = s.trace := rfl
@[simp] theorem State.advance_latched : (s.advance).latched = s.latched := rfl
@[simp] theorem State.advance_replies : (s.advance).replies = s.replies := rfl
@[simp] theorem State.advance_elapsed : (s.advance).elapsed = s.elapsed := rfl

/-! `State.takePause` -/
@[simp] theorem State.takePause_straps : (s.takePause).straps = s.straps := rfl
@[simp] theorem State.takePause_timerOn : (s.takePause).timerOn = s.timerOn := rfl
@[simp] theorem State.takePause_pauses : (s.takePause).pauses = s.pauses.tail := rfl
@[simp] theorem State.takePause_resetReq : (s.takePause).resetReq = s.resetReq := rfl
@[simp] theorem State.takePause_cfg : (s.takePause).cfg = s.cfg := rfl
@[simp] theorem State.takePause_initialized : (s.takePause).initialized = s.initialized := rfl
@[simp] theorem State.takePause_initState : (s.takePause).initState = s.initState := rfl
@[simp] theorem State.takePause_busy : (s.takePause).busy = s.busy := rfl
@[simp] theorem State.takePause_upc : (s.takePause).upc = s.upc := rfl
@[simp] theorem State.takePause_seq : (s.takePause).seq = s.seq := rfl
@[simp] theorem State.takePause_timer : (s.takePause).timer = s.timer := rfl
@[simp] theorem State.takePause_op : (s.takePause).op = s.op := rfl
@[simp] theorem State.takePause_inFlight : (s.takePause).inFlight = s.inFlight := rfl
@[simp] theorem State.takePause_out : (s.takePause).out = s.out := rfl
@[simp] theorem State.takePause_lcd : (s.takePause).lcd = s.lcd := rfl
@[simp] theorem State.takePause_ctrlSync : (s.takePause).ctrlSync = s.ctrlSync := rfl
@[simp] theorem State.takePause_pending : (s.takePause).pending = s.pending := rfl
@[simp] theorem State.takePause_issuer : (s.takePause).issuer = s.issuer := rfl
@[simp] theorem State.takePause_answers : (s.takePause).answers = s.answers := rfl
@[simp] theorem State.takePause_draws : (s.takePause).draws = s.draws := rfl
@[simp] theorem State.takePause_trace : (s.takePause).trace = s.trace := rfl
@[simp] theorem State.takePause_latched : (s.takePause).latched = s.latched := rfl
@[simp] theorem State.takePause_replies : (s.takePause).replies = s.replies := rfl
@[simp] theorem State.takePause_elapsed : (s.takePause).elapsed = s.elapsed := rfl

/-! `State.takeRequest` -/
@[simp] theorem State.takeRequest_straps (r : Request) (others : List Request) (rest : List CmdWord) : (s.takeRequest r others rest).straps = s.straps := rfl
@[simp] theorem State.takeRequest_timerOn (r : Request) (others : List Request) (rest : List CmdWord) : (s.takeRequest r others rest).timerOn = s.timerOn := rfl
@[simp] theorem State.takeRequest_pauses (r : Request) (others : List Request) (rest : List CmdWord) : (s.takeRequest r others rest).pauses = s.pauses := rfl
@[simp] theorem State.takeRequest_resetReq (r : Request) (others : List Request) (rest : List CmdWord) : (s.takeRequest r others rest).resetReq = s.resetReq := rfl
@[simp] theorem State.takeRequest_cfg (r : Request) (others : List Request) (rest : List CmdWord) : (s.takeRequest r others rest).cfg = s.cfg := rfl
@[simp] theorem State.takeRequest_initialized (r : Request) (others : List Request) (rest : List CmdWord) : (s.takeRequest r others rest).initialized = s.initialized := rfl
@[simp] theorem State.takeRequest_initState (r : Request) (others : List Request) (rest : List CmdWord) : (s.takeRequest r others rest).initState = s.initState := rfl
@[simp] theorem State.takeRequest_busy (r : Request) (others : List Request) (rest : List CmdWord) : (s.takeRequest r others rest).busy = s.busy := rfl
@[simp] theorem State.takeRequest_upc (r : Request) (others : List Request) (rest : List CmdWord) : (s.takeRequest r others rest).upc = s.upc := rfl
@[simp] theorem State.takeRequest_seq (r : Request) (others : List Request) (rest : List CmdWord) : (s.takeRequest r others rest).seq = s.seq := rfl
@[simp] theorem State.takeRequest_timer (r : Request) (others : List Request) (rest : List CmdWord) : (s.takeRequest r others rest).timer = s.timer := rfl
@[simp] theorem State.takeRequest_op (r : Request) (others : List Request) (rest : List CmdWord) : (s.takeRequest r others rest).op = s.op := rfl
@[simp] theorem State.takeRequest_inFlight (r : Request) (others : List Request) (rest : List CmdWord) : (s.takeRequest r others rest).inFlight = s.inFlight := rfl
@[simp] theorem State.takeRequest_out (r : Request) (others : List Request) (rest : List CmdWord) : (s.takeRequest r others rest).out = s.out := rfl
@[simp] theorem State.takeRequest_lcd (r : Request) (others : List Request) (rest : List CmdWord) : (s.takeRequest r others rest).lcd = s.lcd := rfl
@[simp] theorem State.takeRequest_ctrlSync (r : Request) (others : List Request) (rest : List CmdWord) : (s.takeRequest r others rest).ctrlSync = s.ctrlSync := rfl
@[simp] theorem State.takeRequest_pending (r : Request) (others : List Request) (rest : List CmdWord) : (s.takeRequest r others rest).pending = if rest = [] then others else ⟨r.host, .frame rest⟩ :: others := rfl
@[simp] theorem State.takeRequest_issuer (r : Request) (others : List Request) (rest : List CmdWord) : (s.takeRequest r others rest).issuer = r.host := rfl
@[simp] theorem State.takeRequest_answers (r : Request) (others : List Request) (rest : List CmdWord) : (s.takeRequest r others rest).answers = s.answers := rfl
@[simp] theorem State.takeRequest_draws (r : Request) (others : List Request) (rest : List CmdWord) : (s.takeRequest r others rest).draws = s.draws := rfl
@[simp] theorem State.takeRequest_trace (r : Request) (others : List Request) (rest : List CmdWord) : (s.takeRequest r others rest).trace = s.trace := rfl
@[simp] theorem State.takeRequest_latched (r : Request) (others : List Request) (rest : List CmdWord) : (s.takeRequest r others rest).latched = s.latched := rfl
@[simp] theorem State.takeRequest_replies (r : Request) (others : List Request) (rest : List CmdWord) : (s.takeRequest r others rest).replies = s.replies := rfl
@[simp] theorem State.takeRequest_elapsed (r : Request) (others : List Request) (rest : List CmdWord) : (s.takeRequest r others rest).elapsed = s.elapsed := rfl

/-! `State.startCall` -/
@[simp] theorem State.startCall_straps (p : Primitive) : (s.startCall p).straps = s.straps := by
  unfold State.startCall; split <;> rfl
@[simp] theorem State.startCall_timerOn (p : Primitive) : (s.startCall p).timerOn = s.timerOn := by
  unfold State.startCall; split <;> rfl
@[simp] theorem State.startCall_pauses (p : Primitive) : (s.startCall p).pauses = s.pauses := by
  unfold State.startCall; split <;> rfl
@[simp] theorem State.startCall_resetReq (p : Primitive) : (s.startCall p).resetReq = s.resetReq := by
  unfold State.startCall; split <;> rfl
@[simp] theorem State.startCall_cfg (p : Primitive) : (s.startCall p).cfg = s.cfg := by
  unfold State.startCall; split <;> rfl
@[simp] theorem State.startCall_initialized (p : Primitive) : (s.startCall p).initialized = s.initialized := by
  unfold State.startCall; split <;> rfl
@[simp] theorem State.startCall_initState (p : Primitive) : (s.startCall p).initState = s.initState := by
  unfold State.startCall; split <;> rfl
@[simp] theorem State.startCall_busy (p : Primitive) : (s.startCall p).busy = s.busy := by
  unfold State.startCall; split <;> rfl
@[simp] theorem State.startCall_upc (p : Primitive) : (s.startCall p).upc = s.upc := by
  unfold State.startCall; split <;> rfl
@[simp] theorem State.startCall_seq (p : Primitive) : (s.startCall p).seq = s.seq := by
  unfold State.startCall; split <;> rfl
@[simp] theorem State.startCall_timer (p : Primitive) : (s.startCall p).timer = s.timer := by
  unfold State.startCall; split <;> rfl
@[simp] theorem State.startCall_op (p : Primitive) : (s.startCall p).op = s.op := by
  unfold State.startCall; split <;> rfl
@[simp] theorem State.startCall_inFlight (p : Primitive) : (s.startCall p).inFlight = true := by
  unfold State.startCall; split
  · assumption
  · rfl
@[simp] theorem State.startCall_out (p : Primitive) : (s.startCall p).out = s.out := by
  unfold State.startCall; split <;> rfl
@[simp] theorem State.startCall_lcd (p : Primitive) : (s.startCall p).lcd = s.lcd := by
  unfold State.startCall; split <;> rfl
@[simp] theorem State.startCall_ctrlSync (p : Primitive) : (s.startCall p).ctrlSync = s.ctrlSync := by
  unfold State.startCall; split <;> rfl
@[simp] theorem State.startCall_pending (p : Primitive) : (s.startCall p).pending = s.pending := by
  unfold State.startCall; split <;> rfl
@[simp] theorem State.startCall_issuer (p : Primitive) : (s.startCall p).issuer = s.issuer := by
  unfold State.startCall; split <;> rfl
@[simp] theorem State.startCall_answers (p : Primitive) : (s.startCall p).answers = s.answers := by
  unfold State.startCall; split <;> rfl
@[simp] theorem State.startCall_draws (p : Primitive) : (s.startCall p).draws = s.draws := by
  unfold State.startCall; split <;> rfl
@[simp] theorem State.startCall_trace (p : Primitive) : (s.startCall p).trace = if s.inFlight then s.trace else s.trace ++ [.call s.cfg.outReg p] := by
  unfold State.startCall; split <;> rfl
@[simp] theorem State.startCall_latched (p : Primitive) : (s.startCall p).latched = s.latched := by
  unfold State.startCall; split <;> rfl
@[simp] theorem State.startCall_replies (p : Primitive) : (s.startCall p).replies = s.replies := by
  unfold State.startCall; split <;> rfl
@[simp] theorem State.startCall_elapsed (p : Primitive) : (s.startCall p).elapsed = s.elapsed := by
  unfold State.startCall; split <;> rfl

/-! `State.pauseAt` -/
@[simp] theorem State.startNext_straps (us : Nat) (m : Option MicroOp) : (s.startNext us m).straps = s.straps := by
  rcases m with _ | (_ | _ | _) <;> simp [State.startNext]
@[simp] theorem State.startNext_cfg (us : Nat) (m : Option MicroOp) : (s.startNext us m).cfg = s.cfg := by
  rcases m with _ | (_ | _ | _) <;> simp [State.startNext]
@[simp] theorem State.startNext_initialized (us : Nat) (m : Option MicroOp) : (s.startNext us m).initialized = s.initialized := by
  rcases m with _ | (_ | _ | _) <;> simp [State.startNext]
@[simp] theorem State.startNext_initState (us : Nat) (m : Option MicroOp) : (s.startNext us m).initState = s.initState := by
  rcases m with _ | (_ | _ | _) <;> simp [State.startNext]
@[simp] theorem State.startNext_busy (us : Nat) (m : Option MicroOp) : (s.startNext us m).busy = s.busy := by
  rcases m with _ | (_ | _ | _) <;> simp [State.startNext]
@[simp] theorem State.startNext_upc (us : Nat) (m : Option MicroOp) : (s.startNext us m).upc = s.upc := by
  rcases m with _ | (_ | _ | _) <;> simp [State.startNext]
@[simp] theorem State.startNext_seq (us : Nat) (m : Option MicroOp) : (s.startNext us m).seq = s.seq := by
  rcases m with _ | (_ | _ | _) <;> simp [State.startNext]
@[simp] theorem State.startNext_op (us : Nat) (m : Option MicroOp) : (s.startNext us m).op = s.op := by
  rcases m with _ | (_ | _ | _) <;> simp [State.startNext]
@[simp] theorem State.startNext_out (us : Nat) (m : Option MicroOp) : (s.startNext us m).out = s.out := by
  rcases m with _ | (_ | _ | _) <;> simp [State.startNext]
@[simp] theorem State.startNext_ctrlSync (us : Nat) (m : Option MicroOp) : (s.startNext us m).ctrlSync = s.ctrlSync := by
  rcases m with _ | (_ | _ | _) <;> simp [State.startNext]
@[simp] theorem State.startNext_pending (us : Nat) (m : Option MicroOp) : (s.startNext us m).pending = s.pending := by
  rcases m with _ | (_ | _ | _) <;> simp [State.startNext]
@[simp] theorem State.startNext_issuer (us : Nat) (m : Option MicroOp) : (s.startNext us m).issuer = s.issuer := by
  rcases m with _ | (_ | _ | _) <;> simp [State.startNext]
@[simp] theorem State.startNext_answers (us : Nat) (m : Option MicroOp) : (s.startNext us m).answers = s.answers := by
  rcases m with _ | (_ | _ | _) <;> simp [State.startNext]
@[simp] theorem State.startNext_draws (us : Nat) (m : Option MicroOp) : (s.startNext us m).draws = s.draws := by
  rcases m with _ | (_ | _ | _) <;> simp [State.startNext]
@[simp] theorem State.startNext_pauses (us : Nat) (m : Option MicroOp) : (s.startNext us m).pauses = s.pauses := by
  rcases m with _ | (_ | _ | _) <;> simp [State.startNext]
@[simp] theorem State.startNext_latched (us : Nat) (m : Option MicroOp) : (s.startNext us m).latched = s.latched := by
  rcases m with _ | (_ | _ | _) <;> simp [State.startNext]
@[simp] theorem State.startNext_replies (us : Nat) (m : Option MicroOp) : (s.startNext us m).replies = s.replies := by
  rcases m with _ | (_ | _ | _) <;> simp [State.startNext]
@[simp] theorem State.pauseAt_straps (p : Pause) (m : Option MicroOp) : (s.pauseAt p m).straps = s.straps := by
  unfold State.pauseAt; cases p.started <;> simp
@[simp] theorem State.pauseAt_cfg (p : Pause) (m : Option MicroOp) : (s.pauseAt p m).cfg = s.cfg := by
  unfold State.pauseAt; cases p.started <;> simp
@[simp] theorem State.pauseAt_initialized (p : Pause) (m : Option MicroOp) : (s.pauseAt p m).initialized = s.initialized := by
  unfold State.pauseAt; cases p.started <;> simp
@[simp] theorem State.pauseAt_initState (p : Pause) (m : Option MicroOp) : (s.pauseAt p m).initState = s.initState := by
  unfold State.pauseAt; cases p.started <;> simp
@[simp] theorem State.pauseAt_busy (p : Pause) (m : Option MicroOp) : (s.pauseAt p m).busy = s.busy := by
  unfold State.pauseAt; cases p.started <;> simp
@[simp] theorem State.pauseAt_upc (p : Pause) (m : Option MicroOp) : (s.pauseAt p m).upc = s.upc := by
  unfold State.pauseAt; cases p.started <;> simp
@[simp] theorem State.pauseAt_seq (p : Pause) (m : Option MicroOp) : (s.pauseAt p m).seq = s.seq := by
  unfold State.pauseAt; cases p.started <;> simp
@[simp] theorem State.pauseAt_op (p : Pause) (m : Option MicroOp) : (s.pauseAt p m).op = s.op := by
  unfold State.pauseAt; cases p.started <;> simp
@[simp] theorem State.pauseAt_out (p : Pause) (m : Option MicroOp) : (s.pauseAt p m).out = s.out := by
  unfold State.pauseAt; cases p.started <;> simp
@[simp] theorem State.pauseAt_ctrlSync (p : Pause) (m : Option MicroOp) : (s.pauseAt p m).ctrlSync = s.ctrlSync := by
  unfold State.pauseAt; cases p.started <;> simp
@[simp] theorem State.pauseAt_pending (p : Pause) (m : Option MicroOp) : (s.pauseAt p m).pending = s.pending := by
  unfold State.pauseAt; cases p.started <;> simp
@[simp] theorem State.pauseAt_issuer (p : Pause) (m : Option MicroOp) : (s.pauseAt p m).issuer = s.issuer := by
  unfold State.pauseAt; cases p.started <;> simp
@[simp] theorem State.pauseAt_answers (p : Pause) (m : Option MicroOp) : (s.pauseAt p m).answers = s.answers := by
  unfold State.pauseAt; cases p.started <;> simp
@[simp] theorem State.pauseAt_draws (p : Pause) (m : Option MicroOp) : (s.pauseAt p m).draws = s.draws := by
  unfold State.pauseAt; cases p.started <;> simp
@[simp] theorem State.pauseAt_pauses (p : Pause) (m : Option MicroOp) : (s.pauseAt p m).pauses = s.pauses := by
  unfold State.pauseAt; cases p.started <;> simp
@[simp] theorem State.pauseAt_latched (p : Pause) (m : Option MicroOp) : (s.pauseAt p m).latched = s.latched := by
  unfold State.pauseAt; cases p.started <;> simp
@[simp] theorem State.pauseAt_replies (p : Pause) (m : Option MicroOp) : (s.pauseAt p m).replies = s.replies := by
  unfold State.pauseAt; cases p.started <;> simp
@[simp] theorem State.startNext_resetReq (us : Nat) (m : Option MicroOp) : (s.startNext us m).resetReq = s.resetReq := by
  rcases m with _ | (_ | _ | _) <;> simp [State.startNext]
@[simp] theorem State.pauseAt_resetReq (p : Pause) (m : Option MicroOp) :
    (s.pauseAt p m).resetReq = (s.resetReq || p.reset) := by
  unfold State.pauseAt; cases p.started <;> simp

/-! `State.drive` -/
@[simp] theorem State.drive_straps (v : Byte) : (s.drive v).straps = s.straps := by
  unfold State.drive; dsimp only; split <;> rfl
@[simp] theorem State.drive_timerOn (v : Byte) : (s.drive v).timerOn = s.timerOn := by
  unfold State.drive; dsimp only; split <;> rfl
@[simp] theorem State.drive_pauses (v : Byte) : (s.drive v).pauses = s.pauses := by
  unfold State.drive; dsimp only; split <;> rfl
@[simp] theorem State.drive_resetReq (v : Byte) : (s.drive v).resetReq = s.resetReq := by
  unfold State.drive; dsimp only; split <;> rfl
@[simp] theorem State.drive_cfg (v : Byte) : (s.drive v).cfg = s.cfg := by
  unfold State.drive; dsimp only; split <;> rfl
@[simp] theorem State.drive_initialized (v : Byte) : (s.drive v).initialized = s.initialized := by
  unfold State.drive; dsimp only; split <;> rfl
@[simp] theorem State.drive_initState (v : Byte) : (s.drive v).initState = s.initState := by
  unfold State.drive; dsimp only; split <;> rfl
@[simp] theorem State.drive_busy (v : Byte) : (s.drive v).busy = s.busy := by
  unfold State.drive; dsimp only; split <;> rfl
@[simp] theorem State.drive_upc (v : Byte) : (s.drive v).upc = s.upc := by
  unfold State.drive; dsimp only; split <;> rfl
@[simp] theorem State.drive_seq (v : Byte) : (s.drive v).seq = s.seq := by
  unfold State.drive; dsimp only; split <;> rfl
@[simp] theorem State.drive_timer (v : Byte) : (s.drive v).timer = s.timer := by
  unfold State.drive; dsimp only; split <;> rfl
@[simp] theorem State.drive_op (v : Byte) : (s.drive v).op = s.op := by
  unfold State.drive; dsimp only; split <;> rfl
@[simp] theorem State.drive_inFlight (v : Byte) : (s.drive v).inFlight = s.inFlight := by
  unfold State.drive; dsimp only; split <;> rfl
@[simp] theorem State.drive_out (v : Byte) : (s.drive v).out = v := by
  unfold State.drive; dsimp only; split <;> rfl
@[simp] theorem State.drive_ctrlSync (v : Byte) : (s.drive v).ctrlSync = s.ctrlSync := by
  unfold State.drive; dsimp only; split <;> rfl
@[simp] theorem State.drive_pending (v : Byte) : (s.drive v).pending = s.pending := by
  unfold State.drive; dsimp only; split <;> rfl
@[simp] theorem State.drive_issuer (v : Byte) : (s.drive v).issuer = s.issuer := by
  unfold State.drive; dsimp only; split <;> rfl
@[simp] theorem State.drive_answers (v : Byte) : (s.drive v).answers = s.answers := by
  unfold State.drive; dsimp only; split <;> rfl
@[simp] theorem State.drive_draws (v : Byte) : (s.drive v).draws = s.draws := by
  unfold State.drive; dsimp only; split <;> rfl
@[simp] theorem State.drive_trace (v : Byte) : (s.drive v).trace = s.trace := by
  unfold State.drive; dsimp only; split <;> rfl
@[simp] theorem State.drive_replies (v : Byte) : (s.drive v).replies = s.replies := by
  unfold State.drive; dsimp only; split <;> rfl
@[simp] theorem State.drive_elapsed (v : Byte) : (s.drive v).elapsed = s.elapsed := by
  unfold State.drive; dsimp only; split <;> rfl

/-! `State.callOk` -/
@[simp] theorem State.callOk_straps (p : Primitive) : (s.callOk p).straps = s.straps := by
  simp [State.callOk]
@[simp] theorem State.callOk_timerOn (p : Primitive) : (s.callOk p).timerOn = s.timerOn := by
  simp [State.callOk]
@[simp] theorem State.callOk_pauses (p : Primitive) : (s.callOk p).pauses = s.pauses := by
  simp [State.callOk]
@[simp] theorem State.callOk_resetReq (p : Primitive) : (s.callOk p).resetReq = s.resetReq := by
  simp [State.callOk]
@[simp] theorem State.callOk_cfg (p : Primitive) : (s.callOk p).cfg = s.cfg := by
  simp [State.callOk]
@[simp] theorem State.callOk_initialized (p : Primitive) : (s.callOk p).initialized = s.initialized := by
  simp [State.callOk]
@[simp] theorem State.callOk_initState (p : Primitive) : (s.callOk p).initState = s.initState := by
  simp [State.callOk]
@[simp] theorem State.callOk_busy (p : Primitive) : (s.callOk p).busy = s.busy := by
  simp [State.callOk]
@[simp] theorem State.callOk_upc (p : Primitive) : (s.callOk p).upc = s.upc := by
  simp [State.callOk]
@[simp] theorem State.callOk_seq (p : Primitive) : (s.callOk p).seq = s.seq := by
  simp [State.callOk]
@[simp] theorem State.callOk_timer (p : Primitive) : (s.callOk p).timer = s.timer := by
  simp [State.callOk]
@[simp] theorem State.callOk_op (p : Primitive) : (s.callOk p).op = s.op := by
  simp [State.callOk]
@[simp] theorem State.callOk_inFlight (p : Primitive) : (s.callOk p).inFlight = false := by
  simp [State.callOk]
@[simp] theorem State.callOk_out (p : Primitive) : (s.callOk p).out = p.result s.out := by
  simp [State.callOk]
@[simp] theorem State.callOk_ctrlSync (p : Primitive) : (s.callOk p).ctrlSync = s.ctrlSync := by
  simp [State.callOk]
@[simp] theorem State.callOk_pending (p : Primitive) : (s.callOk p).pending = s.pending := by
  simp [State.callOk]
@[simp] theorem State.callOk_issuer (p : Primitive) : (s.callOk p).issuer = s.issuer := by
  simp [State.callOk]
@[simp] theorem State.callOk_answers (p : Primitive) : (s.callOk p).answers = s.answers := by
  simp [State.callOk]
@[simp] theorem State.callOk_draws (p : Primitive) : (s.callOk p).draws = s.draws := by
  simp [State.callOk]
@[simp] theorem State.callOk_trace (p : Primitive) : (s.callOk p).trace = s.trace := by
  simp [State.callOk]
@[simp] theorem State.callOk_replies (p : Primitive) : (s.callOk p).replies = s.replies := by
  simp [State.callOk]
@[simp] theorem State.callOk_elapsed (p : Primitive) : (s.callOk p).elapsed = s.elapsed := by
  simp [State.callOk]

/-! `State.assign` -/
@[simp] theorem State.assign_straps (w : StateWrite) : (s.assign w).straps = s.straps := by
  cases w <;> rfl
@[simp] theorem State.assign_timerOn (w : StateWrite) : (s.assign w).timerOn = s.timerOn := by
  cases w <;> rfl
@[simp] theorem State.assign_pauses (w : StateWrite) : (s.assign w).pauses = s.pauses := by
  cases w <;> rfl
@[simp] theorem State.assign_resetReq (w : StateWrite) : (s.assign w).resetReq = s.resetReq := by
  cases w <;> rfl
@[simp] theorem State.assign_cfg (w : StateWrite) : (s.assign w).cfg = s.cfg := by
  cases w <;> rfl
@[simp] theorem State.assign_busy (w : StateWrite) : (s.assign w).busy = s.busy := by
  cases w <;> rfl
@[simp] theorem State.assign_upc (w : StateWrite) : (s.assign w).upc = s.upc := by
  cases w <;> rfl
@[simp] theorem State.assign_seq (w : StateWrite) : (s.assign w).seq = s.seq := by
  cases w <;> rfl
@[simp] theorem State.assign_timer (w : StateWrite) : (s.assign w).timer = s.timer := by
  cases w <;> rfl
@[simp] theorem State.assign_op (w : StateWrite) : (s.assign w).op = s.op := by
  cases w <;> rfl
@[simp] theorem State.assign_inFlight (w : StateWrite) : (s.assign w).inFlight = s.inFlight := by
  cases w <;> rfl
@[simp] theorem State.assign_out (w : StateWrite) : (s.assign w).out = s.out := by
  cases w <;> rfl
@[simp] theorem State.assign_lcd (w : StateWrite) : (s.assign w).lcd = s.lcd := by
  cases w <;> rfl
@[simp] theorem State.assign_ctrlSync (w : StateWrite) : (s.assign w).ctrlSync = s.ctrlSync := by
  cases w <;> rfl
@[simp] theorem State.assign_pending (w : StateWrite) : (s.assign w).pending = s.pending := by
  cases w <;> rfl
@[simp] theorem State.assign_issuer (w : StateWrite) : (s.assign w).issuer = s.issuer := by
  cases w <;> rfl
@[simp] theorem State.assign_answers (w : StateWrite) : (s.assign w).answers = s.answers := by
  cases w <;> rfl
@[simp] theorem State.assign_draws (w : StateWrite) : (s.assign w).draws = s.draws := by
  cases w <;> rfl
@[simp] theorem State.assign_trace (w : StateWrite) : (s.assign w).trace = s.trace := by
  cases w <;> rfl
@[simp] theorem State.assign_latched (w : StateWrite) : (s.assign w).latched = s.latched := by
  cases w <;> rfl
@[simp] theorem State.assign_replies (w : StateWrite) : (s.assign w).replies = s.replies := by
  cases w <;> rfl
@[simp] theorem State.assign_elapsed (w : StateWrite) : (s.assign w).elapsed = s.elapsed := by
  cases w <;> rfl

end Sys2Proof.Machine
end

