-- ==== Sys2Proof/Laws/Run.lean ====
section
/-! SUPPORT. What performing a list of micro-operations can do: one lemma per answer of the port, and the effect of a whole
list when every primitive answers `ok`. -/

namespace Sys2Proof.Machine

/-- The effect of one micro-operation whose primitive, if it is one, answers `ok`. -/
def State.okStep (s : State) (m : MicroOp) : State :=
  match m with
  | .port p => ((s.startCall p).takeAnswer.callOk p).advance
  | .dly d => (s.wait d).advance
  | .st w => (s.assign w).advance

variable (last : State → State)

@[simp] theorem State.runList_nil (s : State) : State.runList last [] s = last s := rfl

@[simp] theorem State.runList_dly (d : Nat) (ms : List MicroOp) (s : State) :
    State.runList last (.dly d :: ms) s = State.runList last ms (s.okStep (.dly d)) := rfl

@[simp] theorem State.runList_st (w : StateWrite) (ms : List MicroOp) (s : State) :
    State.runList last (.st w :: ms) s = State.runList last ms (s.okStep (.st w)) := rfl

theorem State.nextAnswer_startCall (p : Primitive) (s : State) : (s.startCall p).nextAnswer = s.nextAnswer := by
  simp [State.nextAnswer]

theorem State.runList_port_ok {p : Primitive} {ms : List MicroOp} {s : State} (h : s.nextAnswer = .ok) :
    State.runList last (.port p :: ms) s = State.runList last ms (s.okStep (.port p)) := by
  simp [State.runList, State.perform, State.nextAnswer_startCall, h, State.okStep]

theorem State.runList_port_fault {p : Primitive} {ms : List MicroOp} {s : State} (h : s.nextAnswer = .fault) :
    State.runList last (.port p :: ms) s = (s.startCall p).takeAnswer.callFault.abort := by
  simp [State.runList, State.perform, State.nextAnswer_startCall, h]

theorem State.runList_port_waiting {p : Primitive} {ms : List MicroOp} {s : State} (h : s.nextAnswer = .waiting) :
    State.runList last (.port p :: ms) s = (s.startCall p).takeAnswer := by
  simp [State.runList, State.perform, State.nextAnswer_startCall, h]

/-- Whatever the port answers, a list either goes on, ends at a fault, or stops at a primitive that has not answered. -/
theorem State.runList_cons_cases (m : MicroOp) (ms : List MicroOp) (s : State) :
    State.runList last (m :: ms) s = State.runList last ms (s.okStep m) ∨
    (∃ p, m = .port p ∧ s.nextAnswer = .fault ∧
      State.runList last (m :: ms) s = (s.startCall p).takeAnswer.callFault.abort) ∨
    (∃ p, m = .port p ∧ s.nextAnswer = .waiting ∧ State.runList last (m :: ms) s = (s.startCall p).takeAnswer) := by
  cases m with
  | port p =>
    cases h : s.nextAnswer with
    | ok => exact .inl (State.runList_port_ok last h)
    | fault => exact .inr (.inl ⟨p, rfl, rfl, State.runList_port_fault last h⟩)
    | waiting => exact .inr (.inr ⟨p, rfl, rfl, State.runList_port_waiting last h⟩)
  | dly d => exact .inl rfl
  | st w => exact .inl rfl

variable {last}

/-- The one induction over a list: `P` says what holds while the rest of it is to be performed, `Q` what holds where the step
ends. -/
theorem State.runList_induct {P : List MicroOp → State → Prop} {Q : State → Prop} {ops : List MicroOp} {s : State}
    (hs : P ops s)
    (ok : ∀ m ms t, P (m :: ms) t → P ms (t.okStep m))
    (fin : ∀ t, P [] t → Q (last t))
    (fault : ∀ p ms t, P (.port p :: ms) t → Q (t.startCall p).takeAnswer.callFault.abort)
    (waiting : ∀ p ms t, P (.port p :: ms) t → Q (t.startCall p).takeAnswer) :
    Q (State.runList last ops s) := by
  induction ops generalizing s with
  | nil => exact fin s hs
  | cons m ms ih =>
    rcases State.runList_cons_cases last m ms s with h | ⟨p, rfl, _, h⟩ | ⟨p, rfl, _, h⟩
    · rw [h]; exact ih (ok m ms s hs)
    · rw [h]; exact fault p ms s hs
    · rw [h]; exact waiting p ms s hs

/-- How the rest of an operation is performed: to its completion, or up to the pause of this step. -/
theorem State.runOps_cases (ops : List MicroOp) (s : State) :
    (NoPause s ∧ State.runOps ops s = State.runList State.finish ops s) ∨
    (∃ p later, s.pauses = p :: later ∧ p.done ≤ ops.length ∧
      State.runOps ops s = State.runList (State.pauseAt p ops[p.done]?) (ops.take p.done) s.takePause) ∨
    (∃ p later, s.pauses = p :: later ∧ ops.length < p.done ∧
      State.runOps ops s = State.runList State.finish ops s.takePause) := by
  cases h : s.pauses with
  | nil => exact .inl ⟨h, by simp [State.runOps, h]⟩
  | cons p later =>
    by_cases hp : p.done ≤ ops.length
    · exact .inr (.inl ⟨p, later, rfl, hp, by simp [State.runOps, h, hp]⟩)
    · exact .inr (.inr ⟨p, later, rfl, by omega, by simp [State.runOps, h, hp]⟩)

theorem State.runOps_noPause {ops : List MicroOp} {s : State} (h : NoPause s) :
    State.runOps ops s = State.runList State.finish ops s := by
  simp [State.runOps, h]

/-- A property that every micro-operation and the taking of a pause keep, in a form for each way a step can end, holds at its
end. -/
theorem State.runOps_induct {P Q : State → Prop} {ops : List MicroOp} {s : State}
    (hs : P s) (hp : P s.takePause)
    (ok : ∀ m ∈ ops, ∀ t, P t → P (t.okStep m))
    (fin : ∀ t, P t → Q t.finish)
    (fault : ∀ p, .port p ∈ ops → ∀ t, P t → Q (t.startCall p).takeAnswer.callFault.abort)
    (waiting : ∀ p, .port p ∈ ops → ∀ t, P t → Q (t.startCall p).takeAnswer)
    (pause : ∀ p : Pause, ∀ t, P t → Q (t.pauseAt p ops[p.done]?)) :
    Q (State.runOps ops s) := by
  have run : ∀ (last : State → State) (l : List MicroOp) (t : State), (∀ m ∈ l, m ∈ ops) → P t →
      (∀ u, P u → Q (last u)) → Q (State.runList last l t) := fun last l t hl ht hlast =>
    State.runList_induct (P := fun ms u => (∀ m ∈ ms, m ∈ ops) ∧ P u) ⟨hl, ht⟩
      (fun m ms u h => ⟨fun x hx => h.1 x (List.mem_cons_of_mem _ hx), ok m (h.1 m (List.mem_cons_self ..)) u h.2⟩)
      (fun u h => hlast u h.2)
      (fun p ms u h => fault p (h.1 _ (List.mem_cons_self ..)) u h.2)
      (fun p ms u h => waiting p (h.1 _ (List.mem_cons_self ..)) u h.2)
  rcases State.runOps_cases ops s with ⟨_, h⟩ | ⟨p, _, _, _, h⟩ | ⟨_, _, _, _, h⟩ <;> rw [h]
  · exact run _ ops s (fun _ h => h) hs fin
  · exact run _ _ _ (fun _ h => List.mem_of_mem_take h) hp (pause p)
  · exact run _ ops _ (fun _ h => h) hp fin

/-! ### The port's listed answers -/

theorem PortOk.zero {s : State} (h : NoPause s) : PortOk 0 s := ⟨by simp, h⟩

theorem PortOk.next {n : Nat} {s : State} (h : PortOk (n + 1) s) : s.nextAnswer = .ok := by
  have h := h.1
  cases ha : s.answers with
  | nil => simp [ha, List.replicate_succ] at h
  | cons a as =>
    simp [ha, List.replicate_succ] at h
    simp [State.nextAnswer, ha, h.1]

theorem PortOk.tail {n : Nat} {s t : State} (h : PortOk (n + 1) s) (ht : t.answers = s.answers.tail)
    (hp : t.pauses = s.pauses) : PortOk n t := by
  refine ⟨?_, hp.trans h.2⟩
  have h := h.1
  cases ha : s.answers with
  | nil => simp [ha, List.replicate_succ] at h
  | cons a as =>
    simp [ha, List.replicate_succ] at h
    simpa [ht, ha] using h.2

theorem PortThen.zero {a : PortAnswer} {s : State} (h : PortThen 0 a s) : s.nextAnswer = a := by
  have h := h.1
  cases hs : s.answers with
  | nil => simp [hs] at h
  | cons b bs => simpa [hs, State.nextAnswer] using h

theorem PortThen.next {n : Nat} {a : PortAnswer} {s : State} (h : PortThen (n + 1) a s) : s.nextAnswer = .ok := by
  have h := h.1
  cases hs : s.answers with
  | nil => simp [hs, List.replicate_succ] at h
  | cons b bs =>
    simp [hs, List.replicate_succ] at h
    simp [State.nextAnswer, hs, h.1]

theorem PortThen.tail {n : Nat} {a : PortAnswer} {s t : State} (h : PortThen (n + 1) a s)
    (ht : t.answers = s.answers.tail) (hp : t.pauses = s.pauses) : PortThen n a t := by
  refine ⟨?_, hp.trans h.2⟩
  have h := h.1
  cases hs : s.answers with
  | nil => simp [hs, List.replicate_succ] at h
  | cons b bs =>
    simp [hs, List.replicate_succ] at h
    simpa [ht, hs] using h.2

/-! ### One micro-operation -/

@[simp] theorem State.okStep_straps (s : State) (m : MicroOp) : (s.okStep m).straps = s.straps := by
  cases m <;> simp [State.okStep]
@[simp] theorem State.okStep_resetReq (s : State) (m : MicroOp) : (s.okStep m).resetReq = s.resetReq := by
  cases m <;> simp [State.okStep]
@[simp] theorem State.okStep_cfg (s : State) (m : MicroOp) : (s.okStep m).cfg = s.cfg := by
  cases m <;> simp [State.okStep]
@[simp] theorem State.okStep_busy (s : State) (m : MicroOp) : (s.okStep m).busy = s.busy := by
  cases m <;> simp [State.okStep]
@[simp] theorem State.okStep_op (s : State) (m : MicroOp) : (s.okStep m).op = s.op := by
  cases m <;> simp [State.okStep]
@[simp] theorem State.okStep_seq (s : State) (m : MicroOp) : (s.okStep m).seq = s.seq := by
  cases m <;> simp [State.okStep]
@[simp] theorem State.okStep_upc (s : State) (m : MicroOp) : (s.okStep m).upc = s.upc + 1 := by
  cases m <;> simp [State.okStep]
@[simp] theorem State.okStep_pending (s : State) (m : MicroOp) : (s.okStep m).pending = s.pending := by
  cases m <;> simp [State.okStep]
@[simp] theorem State.okStep_issuer (s : State) (m : MicroOp) : (s.okStep m).issuer = s.issuer := by
  cases m <;> simp [State.okStep]
@[simp] theorem State.okStep_ctrlSync (s : State) (m : MicroOp) : (s.okStep m).ctrlSync = s.ctrlSync := by
  cases m <;> simp [State.okStep]
@[simp] theorem State.okStep_pauses (s : State) (m : MicroOp) : (s.okStep m).pauses = s.pauses := by
  cases m <;> simp [State.okStep]
@[simp] theorem State.okStep_replies (s : State) (m : MicroOp) : (s.okStep m).replies = s.replies := by
  cases m <;> simp [State.okStep]

/-- No micro-operation but `ST` writes the flag or the milestone (R24, R25). -/
theorem State.okStep_flags {s : State} {m : MicroOp} (h : m.isState = false) :
    (s.okStep m).initialized = s.initialized ∧ (s.okStep m).initState = s.initState := by
  cases m with
  | st w => simp [MicroOp.isState] at h
  | port p => simp [State.okStep]
  | dly d => simp [State.okStep]

/-! ### A micro-operation that was stopped goes on -/

/-- A primitive enters the port trace once (R13). -/
theorem State.startCall_again (p : Primitive) (s : State) : (s.startCall p).startCall p = s.startCall p := by
  rw [State.startCall.eq_def _ (s.startCall p)]; simp

/-- A wait stopped after any part of it takes as long in all, and leaves the controller as far, as one that was not (R32, R236). -/
theorem State.wait_passTime (d us : Nat) (s : State) : ((s.startWait d).passTime us).wait d = s.wait d := by
  have hm := Nat.min_le_right us (s.startWait d).timer
  have ho : (s.startWait d).lcd.owed - min us (s.startWait d).timer - ((s.startWait d).timer - min us (s.startWait d).timer) =
      (s.startWait d).lcd.owed - (s.startWait d).timer := by omega
  have he : (s.startWait d).elapsed + min us (s.startWait d).timer +
      ((s.startWait d).timer - min us (s.startWait d).timer) = (s.startWait d).elapsed + (s.startWait d).timer := by omega
  unfold State.wait
  rw [State.startWait.eq_def _ ((s.startWait d).passTime us)]
  simp only [State.passTime_timerOn, State.startWait_timerOn, if_true]
  simp only [State.runTimer, State.passTime, Lcd.rest, ho, he]

/-- So performing a micro-operation that had started has the outcome of performing it whole. -/
theorem State.perform_startNext (us : Nat) (m : MicroOp) (s : State) : (s.startNext us (some m)).perform m = s.perform m := by
  cases m with
  | port p => simp only [State.startNext, State.perform, State.startCall_again]
  | dly d => simp only [State.startNext, State.perform, State.wait_passTime]
  | st w => rfl

/-! ### A whole list, every primitive answering `ok` -/

/-- The state after a list whose primitives all answered `ok`, before the operation ends. -/
def State.okRun (ops : List MicroOp) (s : State) : State := ops.foldl State.okStep s

@[simp] theorem State.okRun_nil (s : State) : State.okRun [] s = s := rfl
@[simp] theorem State.okRun_cons (m : MicroOp) (ms : List MicroOp) (s : State) :
    State.okRun (m :: ms) s = State.okRun ms (s.okStep m) := rfl
theorem State.okRun_append (as bs : List MicroOp) (s : State) :
    State.okRun (as ++ bs) s = State.okRun bs (State.okRun as s) := by simp [State.okRun]

@[simp] theorem portCount_nil : portCount [] = 0 := rfl
@[simp] theorem portCount_port (p : Primitive) (ms : List MicroOp) : portCount (.port p :: ms) = portCount ms + 1 := by
  simp [portCount, List.countP_cons, MicroOp.isPort]
@[simp] theorem portCount_dly (d : Nat) (ms : List MicroOp) : portCount (.dly d :: ms) = portCount ms := by
  simp [portCount, MicroOp.isPort]
@[simp] theorem portCount_st (w : StateWrite) (ms : List MicroOp) : portCount (.st w :: ms) = portCount ms := by
  simp [portCount, MicroOp.isPort]
@[simp] theorem portCount_append (as bs : List MicroOp) : portCount (as ++ bs) = portCount as + portCount bs := by
  simp [portCount]

theorem traceOf_append (reg : Nat) (as bs : List MicroOp) :
    traceOf reg (as ++ bs) = traceOf reg as ++ traceOf reg bs := by
  induction as with
  | nil => rfl
  | cons m ms ih => cases m <;> simp [traceOf, ih]

theorem leastWait_append (as bs : List MicroOp) : leastWait (as ++ bs) = leastWait as + leastWait bs := by
  induction as with
  | nil => simp [leastWait]
  | cons m ms ih => cases m <;> (simp only [List.cons_append, leastWait, ih]; try omega)

/-- If the next answers suffice and are all `ok`, the list is performed to its end (R120). -/
theorem State.runList_ok {ops : List MicroOp} {s : State}
    (h : s.answers.take (portCount ops) = List.replicate (portCount ops) .ok) :
    State.runList last ops s = last (State.okRun ops s) := by
  induction ops generalizing s with
  | nil => rfl
  | cons m ms ih =>
    cases m with
    | port p =>
      rw [portCount_port] at h
      cases ha : s.answers with
      | nil => simp [ha, List.replicate_succ] at h
      | cons a as =>
        simp [ha, List.replicate_succ] at h
        rw [State.runList_port_ok last (by simp [State.nextAnswer, ha, h.1]), State.okRun_cons]
        exact ih (by simpa [State.okStep, ha] using h.2)
    | dly d =>
      rw [portCount_dly] at h
      rw [State.runList_dly, State.okRun_cons]
      exact ih (by simpa [State.okStep] using h)
    | st w =>
      rw [portCount_st] at h
      rw [State.runList_st, State.okRun_cons]
      exact ih (by simpa [State.okStep] using h)

/-- And where nothing stops the step, the operation completes. -/
theorem State.runOps_ok {ops : List MicroOp} {s : State} (h : PortOk (portCount ops) s) :
    State.runOps ops s = (State.okRun ops s).finish := by
  rw [State.runOps_noPause h.2, State.runList_ok h.1]

/-- What a list leaves alone (R20). -/
theorem State.okRun_kept (ops : List MicroOp) (s : State) :
    SurroundingsKept s (State.okRun ops s) ∧ (State.okRun ops s).busy = s.busy ∧ (State.okRun ops s).op = s.op ∧
      (State.okRun ops s).seq = s.seq ∧ (State.okRun ops s).upc = s.upc + ops.length ∧
      (State.okRun ops s).ctrlSync = s.ctrlSync ∧ (State.okRun ops s).replies = s.replies ∧
      (State.okRun ops s).pauses = s.pauses := by
  induction ops generalizing s with
  | nil => simp [SurroundingsKept, WorldKept]
  | cons m ms ih =>
    have := ih (s.okStep m)
    simp only [State.okRun_cons, SurroundingsKept, WorldKept, List.length_cons] at *
    simp_all
    omega

/-- After a micro-operation none is left begun. -/
theorem State.okStep_begun {s : State} (h : s.begun = false) (m : MicroOp) : (s.okStep m).begun = false := by
  cases m <;> simp_all [State.okStep, State.begun]

/-- A list adds exactly its own entries to the port trace (R69, R120). -/
theorem State.okRun_trace {ops : List MicroOp} {s : State} (h : s.begun = false) :
    (State.okRun ops s).trace = s.trace ++ traceOf s.cfg.outReg ops ∧ (State.okRun ops s).begun = false := by
  induction ops generalizing s with
  | nil => simp [traceOf, h]
  | cons m ms ih =>
    have := ih (State.okStep_begun h m)
    refine ⟨?_, this.2⟩
    rw [State.okRun_cons, this.1]
    simp only [State.begun, Bool.or_eq_false_iff] at h
    cases m <;> simp [State.okStep, traceOf, h]

/-- A list draws one answer for each of its primitives (R55). -/
theorem State.okRun_answers (ops : List MicroOp) (s : State) :
    (State.okRun ops s).answers = s.answers.drop (portCount ops) ∧
      (State.okRun ops s).draws = s.draws + portCount ops := by
  induction ops generalizing s with
  | nil => simp
  | cons m ms ih =>
    rw [State.okRun_cons, (ih _).1, (ih _).2]
    cases m <;> (simp [State.okStep]; try omega)

/-- The timer runs at least as long as asked (R236, 92 D8). -/
theorem Timing.le_waited (t : Timing) (d : Nat) : d ≤ Timing.waited t d := by
  unfold Timing.waited
  split
  · exact Nat.le_refl d
  · rename_i h
    have ht : 0 < t.tick := Nat.pos_of_ne_zero h
    have := Nat.div_add_mod (d + t.tick - 1) t.tick
    have := Nat.mod_lt (d + t.tick - 1) ht
    have hc := Nat.mul_comm ((d + t.tick - 1) / t.tick) t.tick
    omega

/-- At least the sum of its waits passes (R236, R290). -/
theorem State.okRun_elapsed {ops : List MicroOp} {s : State} (h : s.begun = false) :
    s.elapsed + leastWait ops ≤ (State.okRun ops s).elapsed := by
  induction ops generalizing s with
  | nil => simp [leastWait]
  | cons m ms ih =>
    have h1 := ih (State.okStep_begun h m)
    rw [State.okRun_cons]
    simp only [State.begun, Bool.or_eq_false_iff] at h
    cases m with
    | port p => simp [State.okStep, leastWait] at *; exact h1
    | st w => simp [State.okStep, leastWait] at *; exact h1
    | dly d =>
      have := Timing.le_waited s.cfg.timing d
      simp [State.okStep, leastWait, State.wait_elapsed, h.2] at *
      omega

end Sys2Proof.Machine
end

