-- ==== Sys2Proof/Laws/Exec.lean ====
section
/-! SUPPORT. What running one instruction can do: `exec` as one operation for all instructions, its refusals, and the inversions
of `exec`, `fetch` and `step` that later proofs cite. -/

namespace Sys2Proof.Machine

/-- Every instruction is run by the one shared operation, with its own check and its own list. -/
theorem exec_eq_operate (i : Instr) (s : State) :
    exec i s = .next (s.operate i (refusalOf i s) (expand s.cfg i)) := by
  cases i <;> rfl

theorem State.operate_busy {s : State} (h : s.busy = true) (i : Instr) (r : Option Status) (ops : List MicroOp) :
    s.operate i r ops = s := by simp [State.operate, h]

theorem State.operate_refused {s : State} (h : s.busy = false) (i : Instr) (st : Status) (ops : List MicroOp) :
    s.operate i (some st) ops = s.raise st := by simp [State.operate, h]

theorem State.operate_admitted {s : State} (h : s.busy = false) (i : Instr) (ops : List MicroOp) :
    s.operate i none ops = State.runOps ops ((s.begin i).load ops) := by simp [State.operate, h]

theorem State.raise_eq (st : Status) (s : State) :
    s.raise st = { s with busy := false, replies := s.replies ++ [⟨s.issuer, st⟩] } := rfl

/-- What `exec` answers: the same state while the block is busy, a status alone if the operation is refused, and else the
state after its list has been run. -/
theorem exec_cases {i : Instr} {s t : State} (h : exec i s = .next t) :
    (s.busy = true ∧ t = s) ∨
    (s.busy = false ∧ ∃ st, refusalOf i s = some st ∧
      t = { s with busy := false, replies := s.replies ++ [⟨s.issuer, st⟩] }) ∨
    (s.busy = false ∧ refusalOf i s = none ∧
      t = State.runOps (expand s.cfg i) ((s.begin i).load (expand s.cfg i))) := by
  rw [exec_eq_operate] at h
  injection h with h
  subst h
  cases hb : s.busy with
  | true => exact .inl ⟨rfl, State.operate_busy hb ..⟩
  | false =>
    cases hr : refusalOf i s with
    | some st => exact .inr (.inl ⟨rfl, st, rfl, State.operate_refused hb ..⟩)
    | none => exact .inr (.inr ⟨rfl, rfl, State.operate_admitted hb ..⟩)

/-- What a step does: reset, the rest of the operation in progress, nothing, a reserved frame, or an instruction. -/
theorem step_cases {s t : State} (h : step s = .next t) :
    (s.resetReq = true ∧ s.straps.Legal ∧ t = s.applyReset) ∨
    (s.resetReq = false ∧ s.busy = true ∧ t = s.resume) ∨
    (s.resetReq = false ∧ s.busy = false ∧ t = s) ∨
    (s.resetReq = false ∧ s.busy = false ∧ ∃ r others why rest, s.pending = r :: others ∧
      decode r.offer = .reserved why rest ∧ t = (s.takeRequest r others rest).refuseFrame) ∨
    (s.resetReq = false ∧ s.busy = false ∧ ∃ r others i rest, s.pending = r :: others ∧
      decode r.offer = .instr i rest ∧ exec i (s.takeRequest r others rest) = .next t) := by
  unfold step State.fetch at h
  cases hr : s.resetReq with
  | true =>
    simp only [hr, if_true] at h
    by_cases hl : s.straps.Legal
    · rw [if_pos hl] at h
      injection h with h
      exact .inl ⟨rfl, hl, h.symm⟩
    · simp [if_neg hl] at h
  | false =>
    cases hb : s.busy with
    | true =>
      simp only [hr, hb, if_true, Bool.false_eq_true, if_false] at h
      injection h with h
      exact .inr (.inl ⟨rfl, rfl, h.symm⟩)
    | false =>
      simp only [hr, hb, Bool.false_eq_true, if_false, State.fetchRequest] at h
      cases hp : s.pending with
      | nil =>
        simp only [hp] at h
        injection h with h
        exact .inr (.inr (.inl ⟨rfl, rfl, h.symm⟩))
      | cons r others =>
        simp only [hp] at h
        cases hd : decode r.offer with
        | instr i rest =>
          simp only [hd] at h
          exact .inr (.inr (.inr (.inr ⟨rfl, rfl, r, others, i, rest, rfl, hd, h⟩)))
        | reserved why rest =>
          simp only [hd] at h
          injection h with h
          exact .inr (.inr (.inr (.inl ⟨rfl, rfl, r, others, why, rest, rfl, hd, h.symm⟩)))
        | incomplete =>
          simp only [hd] at h
          injection h with h
          exact .inr (.inr (.inl ⟨rfl, rfl, h.symm⟩))
        | noByteRow => simp [hd] at h
        | noNibbleRow => simp [hd] at h

end Sys2Proof.Machine
end

