-- ==== Sys2Proof/Laws/Nibble.lean ====
section
/-! SUPPORT. What sending one nibble and one byte does when every primitive answers `ok`: OUT, the latched stream and the
controller (spec/40_nibble_transmitter.md R121 to R128), for a word in which EN is low. -/

namespace Sys2Proof.Machine

@[simp] theorem EndsInStep_nil (c : Setup) (out : Byte) (l : Lcd) :
    EndsInStep c out l [] ↔
      pinLevel out c.pinmap.en = false ∧ l.regs.bus = .four ∧ l.regs.half = none ∧ l.owed = 0 := Iff.rfl
@[simp] theorem EndsInStep_dly (c : Setup) (out : Byte) (l : Lcd) (d : Nat) (ms : List MicroOp) :
    EndsInStep c out l (.dly d :: ms) ↔ EndsInStep c out (l.rest (Timing.waited c.timing d)) ms := Iff.rfl
@[simp] theorem EndsInStep_st (c : Setup) (out : Byte) (l : Lcd) (w : StateWrite) (ms : List MicroOp) :
    EndsInStep c out l (.st w :: ms) ↔ EndsInStep c out l ms := Iff.rfl

/-- Setting and clearing a bit that was clear leaves the word as it was. -/
theorem set_clear_bit (v : Byte) (k : Fin 8) (h : pinLevel v k = false) : (v ||| pinBit k) &&& ~~~pinBit k = v := by
  revert v k; decide

theorem pinLevel_set (v : Byte) (k : Fin 8) : pinLevel (v ||| pinBit k) k = true := by
  revert v k; decide

/-- Where EN does not fall there is no latch event. -/
theorem State.drive_quiet {s : State} {v : Byte}
    (h : (pinLevel s.out s.cfg.pinmap.en && !pinLevel v s.cfg.pinmap.en) = false) : s.drive v = { s with out := v } := by
  simp [State.drive, h]

/-- Where EN falls the controller latches what the new word shows. -/
theorem State.drive_falls {s : State} {v : Byte}
    (h : (pinLevel s.out s.cfg.pinmap.en && !pinLevel v s.cfg.pinmap.en) = true) :
    s.drive v = State.latchEvent { s with out := v } := by
  simp [State.drive, h]

/-- The state after the three primitives and two waits of one nibble, from a state in which no micro-operation has begun. The
controller is stated for EN low at the start, where the only latch event is the falling edge of the pulse. -/
theorem State.okRun_sendNibble {s : State} {mode : Mode} {n : Nibble} {dHi dLo : Nat} {w : Byte}
    (hw : outputWord s.cfg.pinmap mode n = w) (hen : pinLevel w s.cfg.pinmap.en = false) (hf : s.begun = false) :
    let t := State.okRun (sendNibble s.cfg.pinmap mode n dHi dLo) s
    t.out = w ∧
    t.latched = s.latched ++ strayLatch s (panelLatch s.cfg.pinmap w) ++ [panelLatch s.cfg.pinmap w] ∧
    t.draws = s.draws + 3 ∧ t.begun = false ∧ t.cfg = s.cfg ∧ t.initialized = s.initialized ∧
    t.initState = s.initState ∧ t.ctrlSync = s.ctrlSync ∧
    (EnLow s → t.lcd = Lcd.rest (Timing.waited s.cfg.timing dLo)
      ((s.lcd.rest (Timing.waited s.cfg.timing dHi)).latch (s.draws + 3) s.cfg.timing.tClear
        (panelLatch s.cfg.pinmap w))) := by
  have hset := pinLevel_set w s.cfg.pinmap.en
  have hclr := set_clear_bit w s.cfg.pinmap.en hen
  simp only [State.begun, Bool.or_eq_false_iff] at hf
  cases hs : pinLevel s.out s.cfg.pinmap.en <;>
    simp [sendNibble, pulseEN, State.okStep, State.callOk, Primitive.result, State.drive, hw, hen, hf, hs, hset, hclr,
      strayLatch, EnLow, State.latchEvent, State.startCall, State.takeAnswer, State.record, State.wait, State.startWait,
      State.loadTimer, State.runTimer, State.advance, State.begun]

/-- EN is low after a nibble. -/
theorem State.okRun_sendNibble_enLow {s : State} {mode : Mode} {n : Nibble} {dHi dLo : Nat}
    (hen : pinLevel (outputWord s.cfg.pinmap mode n) s.cfg.pinmap.en = false) (hf : s.begun = false) :
    EnLow (State.okRun (sendNibble s.cfg.pinmap mode n dHi dLo) s) := by
  have h := State.okRun_sendNibble (dHi := dHi) (dLo := dLo) rfl hen hf
  simp only at h
  unfold EnLow
  rw [h.2.2.2.2.1, h.1]
  exact hen

end Sys2Proof.Machine
end

