-- ==== Sys2Proof/Laws/PerInstr.lean ====
section
/-! SUPPORT. A law of every instruction as syntax: what `encode` gives is a word of the instruction's own row of
spec/opcode_table.json (its mask and match). -/

namespace Sys2Proof.Laws.Table

/-- The command word, byte or nibble is one of the row. -/
def frameOf (r : Row 16) (x : Offered) : Bool :=
  match x with
  | .frame (w :: _) => r.hits w
  | .frame [] => false
  | .byte _ => false
  | .nibble _ => false

/-- The byte is one of the row. -/
def byteOf (r : Row 8) (x : Offered) : Bool :=
  match x with
  | .byte b => r.hits b
  | .frame _ => false
  | .nibble _ => false

/-- The nibble is one of the row. -/
def nibbleOf (r : Row 4) (x : Offered) : Bool :=
  match x with
  | .nibble n => r.hits n
  | .frame _ => false
  | .byte _ => false

/-- The instruction's encoding is a word of its row. -/
def Statement (i : Instr) : Prop :=
  match i with
  | .sendbyte _ _ => frameOf rowSendbyte (encode i) = true
  | .init _ => frameOf rowInit (encode i) = true
  | .clear => frameOf rowClear (encode i) = true
  | .home => frameOf rowHome (encode i) = true
  | .goto _ _ => frameOf rowGoto (encode i) = true
  | .setentry _ _ => frameOf rowSetentry (encode i) = true
  | .setdisplay _ _ _ => frameOf rowSetdisplay (encode i) = true
  | .setmove _ _ => frameOf rowSetmove (encode i) = true
  | .loadglyphs _ => frameOf rowLoadglyphs (encode i) = true
  | .writestring _ => frameOf rowWritestring (encode i) = true
  | .lcdDisplayClear => byteOf rowDisplayClear (encode i) = true
  | .lcdDisplayHome => byteOf rowDisplayHome (encode i) = true
  | .lcdEntryMode _ _ => byteOf rowEntryMode (encode i) = true
  | .lcdDisplayMode _ _ _ => byteOf rowDisplayMode (encode i) = true
  | .lcdMoveMode _ _ => byteOf rowMoveMode (encode i) = true
  | .lcdFunctionSet _ _ _ => byteOf rowFunctionSet (encode i) = true
  | .lcdCgramAddr _ => byteOf rowCgramAddr (encode i) = true
  | .lcdDdramAddr _ => byteOf rowDdramAddr (encode i) = true
  | .nibEightbit => nibbleOf rowEightbit (encode i) = true
  | .nibFourbit => nibbleOf rowFourbit (encode i) = true

/-- A word that starts with a 4-bit field hits a row that asks for that field alone. -/
theorem hits_of_op (op : BitVec 4) (arg : BitVec 12) :
    (⟨0xF000, op ++ 0#12⟩ : Row 16).hits (op ++ arg) = true := by
  simp only [Row.hits, beq_iff_eq]
  have h : (0xF000 : BitVec 16) = 0xF#4 ++ 0#12 := rfl
  rw [h, BitVec.and_append, BitVec.and_zero]
  congr 1
  revert op; decide

theorem sendbyte (payload : Byte) (mode : Mode) : Statement (.sendbyte payload mode) := by
  cases mode <;> revert payload <;> simp only [Statement, encode, frameOf, Mode.bit] <;> decide

theorem init (o : InitOptions) : Statement (.init o) := by
  obtain ⟨w, l, f, d, c, b, i, s, v, r⟩ := o
  simp only [Statement, encode, encodeInit, frameOf]
  revert w l f d c b i s v r
  decide

theorem clear : Statement .clear := by simp only [Statement, encode, frameOf]; decide

theorem home : Statement .home := by simp only [Statement, encode, frameOf]; decide

theorem goto (row : BitVec 4) (column : BitVec 8) : Statement (.goto row column) := by
  simp only [Statement, encode, frameOf]
  have h : 0x5#4 ++ row ++ column = 0x5#4 ++ (row ++ column) := by rw [BitVec.append_assoc]; rfl
  rw [h]
  exact hits_of_op 0x5 _

theorem setentry (a b : Bool) : Statement (.setentry a b) := by
  simp only [Statement, encode, frameOf]; revert a b; decide

theorem setdisplay (a b c : Bool) : Statement (.setdisplay a b c) := by
  simp only [Statement, encode, frameOf]; revert a b c; decide

theorem setmove (a b : Bool) : Statement (.setmove a b) := by
  simp only [Statement, encode, frameOf]; revert a b; decide

theorem loadglyphs (t : List Byte) : Statement (.loadglyphs t) := by
  simp only [Statement, encode, frameOf]; exact hits_of_op 0x9 _

theorem writestring (t : List Byte) : Statement (.writestring t) := by
  simp only [Statement, encode, frameOf]; exact hits_of_op 0xA _

theorem lcdDisplayClear : Statement .lcdDisplayClear := by simp only [Statement, encode, byteOf]; decide

theorem lcdDisplayHome : Statement .lcdDisplayHome := by simp only [Statement, encode, byteOf]; decide

theorem lcdEntryMode (a b : Bool) : Statement (.lcdEntryMode a b) := by
  simp only [Statement, encode, byteOf]; revert a b; decide

theorem lcdDisplayMode (a b c : Bool) : Statement (.lcdDisplayMode a b c) := by
  simp only [Statement, encode, byteOf]; revert a b c; decide

theorem lcdMoveMode (a b : Bool) : Statement (.lcdMoveMode a b) := by
  simp only [Statement, encode, byteOf]; revert a b; decide

theorem lcdFunctionSet (a b c : Bool) : Statement (.lcdFunctionSet a b c) := by
  simp only [Statement, encode, byteOf]; revert a b c; decide

theorem lcdCgramAddr (a : BitVec 6) : Statement (.lcdCgramAddr a) := by
  simp only [Statement, encode, byteOf]; revert a; decide

theorem lcdDdramAddr (a : BitVec 7) : Statement (.lcdDdramAddr a) := by
  simp only [Statement, encode, byteOf]; revert a; decide

theorem nibEightbit : Statement .nibEightbit := by simp only [Statement, encode, nibbleOf]; decide

theorem nibFourbit : Statement .nibFourbit := by simp only [Statement, encode, nibbleOf]; decide

end Sys2Proof.Laws.Table
end

