-- ==== Sys2Proof/Tests/Slice0.lean ====
section
/-! SUPPORT. Tests against the vectors of spec/95_test_vectors.md and the layouts of spec/30_encoding.md, and for every statement
with hypotheses a state that meets them. -/

namespace Sys2Proof.Tests

open Sys2Proof Sys2Proof.Machine

/-! ### Small states -/

/-- The pin maps of spec/95_test_vectors.md section 0. -/
def pm1 : PinMap := ⟨0, 1, 2, 3, 4, 5⟩
def pm2 : PinMap := ⟨7, 5, 0, 2, 4, 6⟩
def pm3 : PinMap := ⟨4, 5, 3, 2, 1, 0⟩

/-- A controller in step: 4-bit bus, a high nibble next, incrementing, at DDRAM address `a`. -/
def syncedLcd (a : BitVec 7) : Lcd :=
  ⟨⟨.four, none, true, false, true, false, true, false, false, .ddram a, 0⟩, [], [], 0⟩

/-- An idle block with PM1, EN low and these answers to come. -/
def bench (ready : Bool) (answers : List PortAnswer) : State :=
  { State.reset with
    initialized := ready
    initState := if ready then .ready else .unpowered
    out := 0x04
    lcd := syncedLcd 0x43
    ctrlSync := if ready then .inSync else .unknown
    answers := answers }

/-- `n` times `ok`. -/
def oks (n : Nat) : List PortAnswer := List.replicate n .ok

/-- The state a step ends in. -/
def after (r : Host.Outcome State Fault Refusal) (s : State) : State :=
  match r with
  | .next t => t
  | .fault _ => s
  | .refused _ => s

/-- Run one instruction on a ready block, every primitive answering `ok`. -/
def ran (i : Instr) (n : Nat) : State := after (exec i (bench true (oks n))) State.reset

/-- The words written by `WB`, in order. -/
def written (t : List PortEvent) : List Byte :=
  t.filterMap fun e => match e with
    | .call _ (.wb v) => some v
    | .call _ (.sb _) => none
    | .call _ (.cb _) => none
    | .wait _ => none

/-- The options of frame 0x2148 (V30). -/
def options2148 : InitOptions := ⟨false, true, false, true, false, false, true, false, false, false⟩

/-! ### Well-formedness: an ill-formed term for each check -/

theorem lengthFits_iff (t : List Byte) : lengthFits t = decide (t.length ≤ 4095) := rfl

theorem test_table_too_long : (Instr.loadglyphs (List.replicate 4096 0x00)).wellFormed = false :=
  (lengthFits_iff _).trans (by rw [List.length_replicate]; rfl)

theorem test_text_too_long : (Instr.writestring (List.replicate 4096 0x41)).wellFormed = false :=
  (lengthFits_iff _).trans (by rw [List.length_replicate]; rfl)

theorem test_longest_text_fits : (Instr.writestring (List.replicate 4095 0x41)).wellFormed = true :=
  (lengthFits_iff _).trans (by rw [List.length_replicate]; rfl)

/-! ### Decoding: words from R83 to R90 and V4 -/

theorem test_decode_sendbyte : decode (.frame [0b0001_0001_0100_0001]) = .instr (.sendbyte 0x41 .data) [] := by decide
theorem test_decode_sendbyte_command : decode (.frame [0x1041]) = .instr (.sendbyte 0x41 .command) [] := by decide
theorem test_decode_sendbyte_reserved : decode (.frame [0x1200]) = .reserved .arg [] := by decide
theorem test_decode_init : decode (.frame [0b0010_0001_0100_1000]) = .instr (.init options2148) [] := by decide
theorem test_decode_init_order :
    decode (.frame [0b0010_0010_0000_0001]) =
      .instr (.init ⟨true, false, false, false, false, false, false, false, false, true⟩) [] := by decide
theorem test_decode_init_reserved : decode (.frame [0x2400]) = .reserved .arg [] := by decide
theorem test_decode_clear : decode (.frame [0x3000]) = .instr .clear [] := by decide
theorem test_decode_clear_reserved : decode (.frame [0x3001]) = .reserved .arg [] := by decide
theorem test_decode_home : decode (.frame [0x4000]) = .instr .home [] := by decide
theorem test_decode_goto : decode (.frame [0x5103]) = .instr (.goto 1 3) [] := by decide
theorem test_decode_goto_largest : decode (.frame [0x5FFF]) = .instr (.goto 15 255) [] := by decide
theorem test_decode_setentry : decode (.frame [0x6002]) = .instr (.setentry true false) [] := by decide
theorem test_decode_setentry_reserved : decode (.frame [0x6004]) = .reserved .arg [] := by decide
theorem test_decode_setdisplay : decode (.frame [0x7006]) = .instr (.setdisplay true true false) [] := by decide
theorem test_decode_setmove : decode (.frame [0x8001]) = .instr (.setmove false true) [] := by decide
theorem test_decode_loadglyphs :
    decode (.frame [0x9002, 0x000E, 0x001B]) = .instr (.loadglyphs [0x0E, 0x1B]) [] := by decide
theorem test_decode_writestring_rest :
    decode (.frame [0xA002, 0x0048, 0x0069, 0x3000]) = .instr (.writestring [0x48, 0x69]) [0x3000] := by decide
theorem test_decode_data_reserved : decode (.frame [0xA002, 0x0041, 0x0142]) = .reserved .dataWord [] := by decide
theorem test_decode_incomplete : decode (.frame [0xA002, 0x0041]) = .incomplete := by decide
theorem test_decode_op_zero : decode (.frame [0x0000]) = .reserved .op [] := by decide
theorem test_decode_op_fifteen : decode (.frame [0xFFFF, 0x3000]) = .reserved .op [0x3000] := by decide

theorem test_decode_entry_byte : decode (.byte 0b0000_0110) = .instr (.lcdEntryMode true false) [] := by decide
theorem test_decode_display_byte : decode (.byte 0b0000_1101) = .instr (.lcdDisplayMode true false true) [] := by decide
theorem test_decode_move_byte : decode (.byte 0b0001_1000) = .instr (.lcdMoveMode true false) [] := by decide
theorem test_decode_function_byte :
    decode (.byte 0b0010_1000) = .instr (.lcdFunctionSet false true false) [] := by decide
theorem test_decode_cgram_byte : decode (.byte 0b0100_0001) = .instr (.lcdCgramAddr 1) [] := by decide
theorem test_decode_ddram_byte : decode (.byte 0b1100_0011) = .instr (.lcdDdramAddr 0x43) [] := by decide
theorem test_decode_no_row_byte : decode (.byte 0x03) = .noByteRow := by decide
theorem test_decode_nibble_three : decode (.nibble 0b0011) = .instr .nibEightbit [] := by decide
theorem test_decode_nibble_two : decode (.nibble 0b0010) = .instr .nibFourbit [] := by decide
theorem test_decode_no_row_nibble : decode (.nibble 0b0001) = .noNibbleRow := by decide

/-- A table word with data words to come reads with those words zero. -/
theorem test_table_word_frame : decodeTableWord 16 0x9002 = some (.loadglyphs [0, 0]) := by decide
theorem test_table_word_byte : decodeTableWord 8 0x02 = some .lcdDisplayHome := by decide
theorem test_table_word_nibble : decodeTableWord 4 0x2 = some .nibFourbit := by decide
theorem test_table_word_nibble_as_byte : decodeTableWord 8 0x3 = some .nibEightbit := by decide

/-! ### The pin mapper and the nibble split (V1, S1) -/

theorem test_word_pm1 : outputWord pm1 .data 0x4 = 0x11 ∧ outputWord pm1 .command 0xC = 0x30 := by decide
theorem test_word_pm2 : outputWord pm2 .data 0x4 = 0x90 ∧ outputWord pm2 .command 0x3 = 0x05 := by decide
theorem test_word_pm3 : outputWord pm3 .command 0x1 = 0x08 ∧ outputWord pm3 .data 0xD = 0x1B := by decide
theorem test_nibbles : highNibble 0x41 = 0x4 ∧ lowNibble 0x41 = 0x1 := by decide

/-! ### One step of each operation (S1, S2, V5 to V9, V30; words of PM1) -/

theorem test_sendbyte_words : written (ran (.sendbyte 0x41 .data) 6).trace = [0x11, 0x05] := by decide
theorem test_sendbyte_trace :
    (ran (.sendbyte 0x41 .data) 6).trace =
      [.call 0 (.wb 0x11), .call 0 (.sb 0x02), .wait 5000, .call 0 (.cb 0x02), .wait 5000,
       .call 0 (.wb 0x05), .call 0 (.sb 0x02), .wait 5000, .call 0 (.cb 0x02), .wait 5000] := by decide
set_option maxRecDepth 20000 in
theorem test_init_words :
    written (after (exec (.init options2148) (bench false (oks 55))) State.reset).trace =
      [0x00, 0x0C, 0x0C, 0x0C, 0x08, 0x08, 0x20, 0x00, 0x20, 0x00, 0x18, 0x00, 0x30, 0x04, 0x00, 0x20, 0x00, 0x00,
       0x04] := by decide
set_option maxRecDepth 20000 in
theorem test_init_ends_ready :
    let t := after (exec (.init options2148) (bench false (oks 55))) State.reset
    t.initialized = true ∧ t.initState.code = 10 ∧ t.elapsed = 205937 ∧ t.out = 0x04 ∧ t.trace.length = 93 := by decide
theorem test_clear_waits : (ran .clear 6).trace.getLast? = some (.wait 1600) ∧ (ran .clear 6).elapsed = 21600 := by decide
theorem test_clear_words : written (ran .clear 6).trace = [0x00, 0x04] := by decide
theorem test_home_words : written (ran .home 6).trace = [0x00, 0x08] ∧ (ran .home 6).trace.length = 11 := by decide
theorem test_goto_words : written (ran (.goto 1 3) 6).trace = [0x30, 0x0C] := by decide
theorem test_goto_edge :
    (ran (.goto 0 20) 6).replies = [⟨0, .outOfRange⟩] ∧ written (ran (.goto 3 19) 6).trace = [0x38, 0x1C] := by decide
theorem test_setentry_words : written (ran (.setentry true false) 12).trace = [0x00, 0x18, 0x00, 0x04] := by decide
theorem test_setdisplay_words : written (ran (.setdisplay true true false) 12).trace = [0x00, 0x38, 0x00, 0x04] := by decide
theorem test_setmove_words : written (ran (.setmove false true) 12).trace = [0x04, 0x10, 0x00, 0x04] := by decide
theorem test_loadglyphs_words :
    written (ran (.loadglyphs [0x0E, 0x1B]) 24).trace = [0x10, 0x00, 0x01, 0x39, 0x05, 0x2D, 0x20, 0x00] := by decide
theorem test_loadglyphs_cgram :
    (ran (.loadglyphs [0x0E, 0x1B]) 24).lcd.cgram = [(0, 0x0E), (1, 0x1B)] ∧
      (ran (.loadglyphs [0x0E, 0x1B]) 24).lcd.regs.place = .ddram 0 := by decide
theorem test_writestring_words : written (ran (.writestring [0x48, 0x69]) 12).trace = [0x11, 0x21, 0x19, 0x25] := by decide
/-- P1: "Hi" at row 1, columns 3 and 4. -/
theorem test_writestring_ddram : (ran (.writestring [0x48, 0x69]) 12).lcd.ddram = [(0x43, 0x48), (0x44, 0x69)] := by decide
theorem test_clear_byte : written (ran .lcdDisplayClear 6).trace = [0x00, 0x04] ∧ (ran .lcdDisplayClear 6).elapsed = 21600 := by decide
theorem test_home_byte : written (ran .lcdDisplayHome 6).trace = [0x00, 0x08] := by decide
theorem test_entry_byte : written (ran (.lcdEntryMode true false) 6).trace = [0x00, 0x18] := by decide
theorem test_display_byte : written (ran (.lcdDisplayMode false false false) 6).trace = [0x00, 0x20] := by decide
theorem test_move_byte : written (ran (.lcdMoveMode true true) 6).trace = [0x04, 0x30] := by decide
theorem test_function_byte : written (ran (.lcdFunctionSet false true false) 6).trace = [0x08, 0x20] := by decide
theorem test_cgram_byte : written (ran (.lcdCgramAddr 0) 6).trace = [0x10, 0x00] := by decide
theorem test_ddram_byte : written (ran (.lcdDdramAddr 0x43) 6).trace = [0x30, 0x0C] := by decide
theorem test_nibble_three :
    (ran .nibEightbit 3).trace =
      [.call 0 (.wb 0x0C), .call 0 (.sb 0x02), .wait 5000, .call 0 (.cb 0x02), .wait 4100] := by decide
theorem test_nibble_two :
    (ran .nibFourbit 3).trace =
      [.call 0 (.wb 0x08), .call 0 (.sb 0x02), .wait 5000, .call 0 (.cb 0x02), .wait 37] := by decide

/-! ### Errors, stray latches, reset, the step -/

/-- V5: EN high at the start makes one latch event more. -/
theorem test_stray_latch :
    (after (exec (.sendbyte 0x41 .data) { bench true (oks 6) with out := 0x3E }) State.reset).latched =
      [⟨true, 0x4⟩, ⟨true, 0x4⟩, ⟨true, 0x1⟩] := by decide
/-- V5: primitive 3 answers `fault`. -/
theorem test_busfault_cuts :
    let t := after (exec (.sendbyte 0x41 .data) (bench true [.ok, .ok, .fault])) State.reset
    t.trace = [.call 0 (.wb 0x11), .call 0 (.sb 0x02), .wait 5000, .call 0 (.cb 0x02)] ∧
      t.replies = [⟨0, .busFault⟩] ∧ t.initialized = true ∧ t.ctrlSync = .unknown := by decide
/-- P5: primitive 20 of INIT answers `fault`. -/
theorem test_init_fault :
    let t := after (exec (.init options2148) (bench true (oks 19 ++ [.fault]))) State.reset
    t.trace.length = 33 ∧ t.initialized = false ∧ t.initState = .unpowered := by decide
/-- V31: what the host reads while primitive 50 has not answered. -/
theorem test_init_waiting :
    let t := after (exec (.init options2148) (bench true (oks 49 ++ [.waiting]))) State.reset
    t.busy = true ∧ t.initState.code = 8 ∧ t.initialized = false := by decide
/-- V9: a GOTO out of range on a block that is not initialised. -/
theorem test_check_order :
    (after (exec (.goto 4 0) (bench false (oks 6))) State.reset).replies = [⟨0, .notInitialized⟩] := by decide
/-- A frame offered right after reset is the first thing that runs. -/
theorem test_first_step :
    (after (step (State.reset.withFetchWord 16 0x3000)) State.reset).replies = [⟨0, .notInitialized⟩] := by decide
/-- R262: neither a command byte nor a bring-up nibble reaches the port before INIT. -/
theorem test_first_byte_and_nibble :
    (after (step (State.reset.withFetchWord 8 0x01)) State.reset).replies = [⟨0, .notInitialized⟩] ∧
      (after (step (State.reset.withFetchWord 4 0x3)) State.reset).trace = [] := by decide
theorem test_reserved_frame :
    (after (step ((bench true []).withFetchWord 16 0x3001)) State.reset).replies = [⟨0, .illegalCommand⟩] := by decide
/-- A block that nobody asks anything waits. -/
theorem test_reset_waits : step State.reset = .next State.reset := rfl

/-! ### Witnesses: a state that meets the hypotheses of each statement -/

theorem witness_DecodeOfEncode : (Instr.writestring [0x41]).wellFormed = true := by decide
theorem witness_EncodeOfDecode : decode (.frame [0x3000, 0x4000]) = .instr .clear [0x4000] := by decide
/-- Both clauses: the word 0x3001 is reserved, 0x3000 is not. -/
theorem witness_ReservedFramesRefused :
    let s := { bench true [] with pending := [⟨3, .frame [0x3001]⟩] }
    s.resetReq = false ∧ s.busy = false ∧ ([] : List CmdWord).length = dataWordCount 0x3001 ∧
      s.pending = ⟨3, .frame (0x3001 :: ([] ++ []))⟩ :: [] := by decide
theorem witness_reserved_clause : ReservedFrame 0x3001 [] ∧ ReservedFrame 0xB000 [] ∧ ReservedFrame 0xA001 [0x0100] := by
  simp [ReservedFrame, opField]
theorem witness_legal_clause : ¬ ReservedFrame 0x3000 [] ∧ ¬ ReservedFrame 0x5FFF [] ∧ ¬ ReservedFrame 0xA001 [0x00FF] := by
  simp [ReservedFrame, opField]
theorem witness_legal_pin_maps : pm1.Legal ∧ pm2.Legal ∧ pm3.Legal := by decide
theorem witness_PortUseLegal :
    (bench true (oks 6)).cfg.pinmap.Legal ∧ (bench true (oks 6)).busy = false ∧
      exec .clear (bench true (oks 6)) = .next (ran .clear 6) := ⟨by decide, rfl, rfl⟩
/-- SENDBYTE, CLEAR, HOME, the command bytes. -/
theorem witness_six_primitives :
    let s := bench true (oks 6)
    s.busy = false ∧ s.initialized = true ∧ s.cfg.pinmap.Legal ∧ PortOk 6 s := by decide
theorem witness_CommandBytesComplete : encode .lcdDisplayHome = .byte 0x02 ∧ encode (.lcdFunctionSet true true true) = .byte 0x3C := by decide
theorem witness_InitCompletes :
    let s := bench false (oks 55)
    s.busy = false ∧ s.cfg.pinmap.Legal ∧ PortOk 55 s ∧ options2148.dataWidth = false ∧
      s.lcd.owed ≤ s.cfg.timing.tPowerOn := by decide
theorem witness_InitFaults : ∀ k ∈ [0, 54], k < 55 ∧ PortThen k .fault (bench true (oks k ++ [.fault])) := by decide
theorem witness_InitReplays : (bench true (oks 110)).busy = false ∧ PortOk 110 (bench true (oks 110)) := by decide
theorem witness_InitMilestones :
    ∀ k ∈ [0, 1, 3, 4, 6, 7, 9, 10, 18, 19, 24, 25, 30, 31, 42, 43, 54],
      (bench true (oks k ++ [.waiting])).busy = false ∧ k < 55 ∧
        PortThen k .waiting (bench true (oks k ++ [.waiting])) := by decide
/-- GOTO at the edges of the range. -/
theorem witness_GotoCompletes :
    let s := bench true (oks 6)
    s.busy = false ∧ s.initialized = true ∧ s.cfg.pinmap.Legal ∧ PortOk 6 s ∧ (3#4).toNat < s.cfg.geom.rows ∧
      (19#8).toNat < s.cfg.geom.columns ∧
      (0xE7 : Byte) = 0x80 ||| BitVec.ofNat 8 ((s.cfg.geom.rowStart.getD 3 0).toNat + 19) := by decide
theorem witness_GotoOutOfRange :
    let s := bench true []
    s.busy = false ∧ s.initialized = true ∧
      (s.cfg.geom.rows ≤ (4#4).toNat ∨ s.cfg.geom.columns ≤ (0#8).toNat) ∧
      (s.cfg.geom.rows ≤ (0#4).toNat ∨ s.cfg.geom.columns ≤ (20#8).toNat) := by decide
/-- The geometry at the edge of legality (V6). -/
theorem witness_GotoAddressFits :
    let g : Geometry := ⟨1, 20, [0x6C]⟩
    g.Legal ∧ (0#4).toNat < g.rows ∧ (19#8).toNat < g.columns := by decide
theorem witness_ModeOperationsComplete :
    let s := bench true (oks 12)
    s.busy = false ∧ s.initialized = true ∧ s.cfg.pinmap.Legal ∧ PortOk 12 s := by decide
theorem witness_LoadglyphsCompletes :
    let s := bench true (oks 24)
    s.busy = false ∧ s.initialized = true ∧ s.cfg.pinmap.Legal ∧
      PortOk (6 * (([0x0E, 0x1B] : List Byte).length + 2)) s ∧ Framed s ∧ s.lcd.regs.inc = true := by decide
theorem witness_WritestringCompletes :
    let s := bench true (oks 12)
    s.busy = false ∧ s.initialized = true ∧ s.cfg.pinmap.Legal ∧ PortOk (6 * ([0x48, 0x69] : List Byte).length) s ∧
      Framed s ∧ s.lcd.regs.place = .ddram 0x43 ∧ s.lcd.regs.inc = true ∧ (0x43#7).toNat + 2 ≤ 0x7F := by decide
/-- A text that ends on the last cell. -/
theorem witness_WritestringFillsDdram_end :
    let s := { bench true (oks 12) with lcd := syncedLcd 0x7E }
    Framed s ∧ s.lcd.regs.place = .ddram 0x7E ∧ s.lcd.regs.inc = true ∧ (0x7E#7).toNat + 2 ≤ 0x80 ∧ PortOk (6 * 2) s := by
  decide
theorem witness_BurstStaysWhole :
    let s := { bench true (oks 12) with
      pending := [⟨7, encode (.goto 1 3)⟩, ⟨7, encode (.writestring [0x48])⟩, ⟨8, encode .clear⟩] }
    s.resetReq = false ∧ s.busy = false ∧ s.initialized = true ∧ lengthFits [0x48] = true ∧
      (1#4).toNat < s.cfg.geom.rows ∧ (3#8).toNat < s.cfg.geom.columns ∧ PortOk (6 + 6 * 1) s := by decide
theorem witness_BringUpNibblesComplete :
    let s := bench true (oks 3)
    s.busy = false ∧ s.initialized = true ∧ s.cfg.pinmap.Legal ∧ PortOk 3 s := by decide
theorem witness_GuardRefuses : (bench false []).busy = false ∧ (bench false []).initialized = false := by decide
/-- The four clauses of the check order: a reserved frame, a frame on a block not initialised, a GOTO out of range, a fault. -/
theorem witness_CheckOrder :
    decode (.frame [0x3001]) = .reserved .arg [] ∧ decode (.frame [0x5400]) = .instr (.goto 4 0) [] ∧
      decode (.frame [0x3000]) = .instr .clear [] ∧ isInit .clear = false ∧
      refusalOf .clear (bench true [.fault]) = none ∧
      0 < portCount (expand (bench true []).cfg .clear) ∧ PortThen 0 .fault (bench true [.fault]) := by decide
theorem witness_BusFaultEndsAnyInstruction :
    let s := bench true (oks 5 ++ [.fault])
    s.busy = false ∧ refusalOf .clear s = none ∧ 5 < portCount (expand s.cfg .clear) ∧
      PortThen 5 .fault s := by decide
theorem witness_TraceIsPartOfList :
    (bench true [.ok, .fault]).busy = false ∧
      exec .home (bench true [.ok, .fault]) = .next (after (exec .home (bench true [.ok, .fault])) State.reset) := ⟨rfl, rfl⟩
/-- A fault and a second silence may follow the first silence. -/
theorem witness_SilentPortOnlyDelays :
    let s := bench true (oks 2 ++ .waiting :: [.ok, .fault, .waiting, .ok])
    s.busy = false ∧ s.resetReq = false ∧ refusalOf .clear s = none ∧ 2 < portCount (expand s.cfg .clear) ∧
      portCount (expand s.cfg .clear) - 2 ≤ [PortAnswer.ok, .fault, .waiting, .ok].length ∧ NoPause s ∧
      s.answers = List.replicate 2 .ok ++ .waiting :: [.ok, .fault, .waiting, .ok] := by decide
/-- A CLEAR at whose second primitive the port was silent: the rest has five primitives, the first of them begun. -/
def resumed (a : List PortAnswer) : State := { after (exec .clear (bench true [.ok, .waiting])) State.reset with answers := a }
theorem witness_ResumedOperation :
    let s := resumed (oks 5)
    s.busy = true ∧ s.resetReq = false ∧ s.begun = true ∧ s.upc = 1 ∧ portCount s.rest = 5 ∧ PortOk (portCount s.rest) s ∧
      PortThen 4 .fault (resumed (oks 4 ++ [.fault])) ∧ PortThen 0 .waiting (resumed [.waiting]) := by decide
theorem witness_ResumedOperation_invariants : FlightInv (resumed (oks 5)) ∧ ReadyInv (resumed (oks 5)) := by
  refine ⟨⟨fun _ => by decide, fun _ => ⟨by decide, .sb 0x02, by decide, by decide⟩, fun h => absurd h (by decide)⟩, ?_⟩
  show FlagMatches (resumed (oks 5)) ∧ (resumed (oks 5)).seq.all (fun m => !m.isState) = true
  exact ⟨by decide, by decide⟩
/-- A CLEAR with a pause 1500 microseconds into its first wait. -/
def paused (reset : Bool) : State := { bench true (oks 6) with pauses := [⟨2, some 1500, reset⟩] }
theorem witness_StoppedAnywhere :
    let s := paused true
    s.busy = false ∧ s.resetReq = false ∧ refusalOf .clear s = none ∧ s.pauses = [⟨2, some 1500, true⟩] ∧
      2 ≤ (expand s.cfg .clear).length ∧ (expand s.cfg .clear)[2]? = some (.dly 5000) ∧
      s.answers.take (portCount ((expand s.cfg .clear).take 2)) =
        List.replicate (portCount ((expand s.cfg .clear).take 2)) .ok ∧ s.straps.Legal := by decide
/-- R260: reset in the middle of a wait; the port trace ends in the wait, no status is returned. -/
theorem test_reset_in_a_wait :
    let t := after (exec .clear (paused true)) State.reset
    let u := after (step t) State.reset
    t.busy = true ∧ t.timer = 3500 ∧ t.trace = [.call 0 (.wb 0x00), .call 0 (.sb 0x02), .wait 5000] ∧
      u.busy = false ∧ u.initialized = false ∧ u.trace = t.trace ∧ u.replies = [] ∧ u.out = 0x02 := by decide
/-- R32: a wait that was stopped goes on. -/
theorem test_pause_in_a_wait :
    let u := after (step (after (exec .clear (paused false)) State.reset)) State.reset
    u.trace = (ran .clear 6).trace ∧ u.elapsed = 21600 ∧ u.replies = [⟨0, .ok⟩] := by decide
theorem witness_StepRunsDecoded :
    let s := { bench true (oks 6) with pending := [⟨1, .frame [0x3000, 0x4000]⟩, ⟨2, .byte 0x06⟩] }
    s.resetReq = false ∧ s.busy = false ∧ decode (.frame [0x3000, 0x4000]) = .instr .clear [0x4000] := by decide
theorem witness_IdleWaits :
    State.reset.resetReq = false ∧ State.reset.busy = false ∧ State.reset.pending = [] ∧
      decode (.frame [0xA001]) = .incomplete := by decide
theorem witness_BusyTakesNoFrame : (after (exec .clear (bench true [.waiting])) State.reset).busy = true := by decide
theorem witness_RequestsInOrder :
    step { bench true (oks 6) with pending := [⟨1, .frame [0x3000, 0x4000]⟩] } =
      .next (after (step { bench true (oks 6) with pending := [⟨1, .frame [0x3000, 0x4000]⟩] }) State.reset) := rfl
/-- Reset in the middle of INIT. -/
theorem witness_ResetAtAnyTime :
    let t := { after (exec (.init options2148) (bench true (oks 7 ++ [.waiting]))) State.reset with resetReq := true }
    t.busy = true ∧ t.resetReq = true ∧ t.straps.Legal := by decide
theorem witness_IllegalConfigurationRefused :
    let s := { bench true [] with resetReq := true, straps := ⟨⟨0, 0, 2, 3, 4, 5⟩, ⟨4, 20, [0x00, 0x40, 0x14, 0x54]⟩⟩ }
    s.resetReq = true ∧ ¬ s.straps.Legal := by decide
theorem witness_ReadyInvariantKept : ReadyInv (bench true (oks 6)) ∧ step (bench true (oks 6)) = .next (bench true (oks 6)) :=
  ⟨by simp [ReadyInv, bench, State.reset, State.powerOn, FlagMatches], rfl⟩
theorem witness_ReadyInvariant_mid_operation :
    let t := after (exec (.init options2148) (bench true (oks 7 ++ [.waiting]))) State.reset
    t.busy = true ∧ t.op = some (.init options2148) ∧ t.seq = expandInit t.cfg options2148 ∧ 0 < t.upc ∧
      t.upc + 1 < t.seq.length ∧ t.initialized = false := by decide
theorem witness_MemoryInvariantKept : MemoryInv (ran (.writestring [0x48, 0x69]) 12) := by decide
theorem witness_FlightInvariantKept :
    let t := after (exec .clear (bench true [.ok, .waiting])) State.reset
    t.inFlight = true ∧ t.busy = true ∧ t.upc ≤ t.seq.length ∧ t.seq[t.upc]? = some (.port (.sb 0x02)) ∧
      t.trace.getLast? = some (.call t.cfg.outReg (.sb 0x02)) := by decide
theorem witness_ConfigurationKept : (bench true []).cfg.Legal := by decide
theorem witness_LeastDurations :
    (bench true []).cfg.timing = { Config.timing with tPowerOn := 40000, tick := 1 } ∧
      refusalOf .clear (bench false []) = some .notInitialized := by decide
/-- A text and an INIT are offered to a block in step. -/
theorem witness_PanelTrackingKept :
    let s := { bench true (oks 6) with
      pending := [⟨1, .frame [0xA001, 0x0048]⟩, ⟨1, .frame [0x2148]⟩] }
    s.cfg.pinmap.Legal ∧ HoldCoversSettle s ∧ PanelTracked s ∧ s.ctrlSync = .inSync ∧ s.busy = false ∧
      s.inFlight = false ∧ s.timerOn = false ∧ decode (.frame [0x2148]) = .instr (.init options2148) [] ∧
      s.lcd.owed ≤ s.cfg.timing.tPowerOn := by decide
theorem witness_PanelTrackingKept_invariants : FlightInv (bench true (oks 6)) ∧ PanelInv (bench true (oks 6)) :=
  ⟨⟨fun h => absurd h (by decide), fun h => absurd h (by decide), fun h => absurd h (by decide)⟩,
    show PanelTracked (bench true (oks 6)) from by decide⟩
theorem witness_CommandsOnPanel :
    let s := bench true (oks 12)
    s.busy = false ∧ s.initialized = true ∧ Framed s ∧ PortOk 12 s ∧ s.cfg.geom.Legal := by decide
theorem witness_CommandBytesOnPanel :
    let s := bench true (oks 6)
    s.busy = false ∧ s.initialized = true ∧ Framed s ∧ PortOk 6 s ∧ Place.step true s.lcd.regs.place = some (.ddram 0x44) := by decide
theorem witness_SendbyteOnPanel :
    let s := bench true (oks 6)
    s.busy = false ∧ s.initialized = true ∧ Framed s ∧ PortOk 6 s ∧ s.lcd.regs.place = .ddram 0x43 ∧
      Place.step s.lcd.regs.inc s.lcd.regs.place = some (.ddram 0x44) ∧ s.lcd.regs.shiftOn = false ∧
      encode .lcdDisplayClear = .byte 0x01 ∧ isFunctionSet 0x01 = false := by decide
theorem witness_SendbyteOnPanel_cgram :
    let s := bench true (oks 6)
    let t := { s with lcd := { s.lcd with regs := { s.lcd.regs with place := .cgram 0x3E } } }
    t.initialized = true ∧ Framed t ∧ PortOk 6 t ∧ t.lcd.regs.place = .cgram 0x3E ∧
      Place.step t.lcd.regs.inc t.lcd.regs.place = some (.cgram 0x3F) := by decide
/-- R271: the whole range `0x20..0x3F` is a function set, its two low bits do not matter. -/
theorem test_function_set_range :
    readCommand 0x23 = some (.lcdFunctionSet false false false) ∧ readCommand 0x3F = some (.lcdFunctionSet true true true) ∧
      readCommand 0x40 = some (.lcdCgramAddr 0) ∧ readCommand 0x13 = none := by decide
theorem witness_OnlyInitChangesFlags :
    isInit .clear = false ∧ exec .clear (bench true (oks 6)) = .next (ran .clear 6) := ⟨rfl, rfl⟩

end Sys2Proof.Tests
end

section
/-! # What every step keeps of the configuration, and how much of its list an instruction puts on the port

Settles O32, O39, O41, O48 and O49 (spec/00_scope.md). -/

namespace Sys2Proof.Machine

/-! ### How an operation ends -/

/-- What the end with status `Ok` changes: nothing but `busy`, the panel's side and the statuses (R34, R120). -/
theorem State.finish_eq (s : State) : ∃ l c,
    s.finish = { s with
      busy := false, lcd := l, ctrlSync := c, replies := s.replies ++ [⟨s.issuer, .ok⟩] } := by
  unfold State.finish
  split
  · unfold State.panelAfter
    split_ifs <;> exact ⟨_, _, rfl⟩
  · exact ⟨_, _, rfl⟩

/-- What an abort changes (R158, R230): as `finish_eq`, and an INIT goes back to Unpowered. -/
theorem State.abort_eq (s : State) :
    s.abort = { s with
      busy := false
      initState := if s.op.any isInit then .unpowered else s.initState
      lcd := Lcd.lost s.draws
      ctrlSync := .unknown
      replies := s.replies ++ [⟨s.issuer, .busFault⟩] } := by
  unfold State.abort
  split
  next i h => cases hi : isInit i <;> simp [h, hi, State.losePanel, State.raise_eq]
  next h => simp [h, State.losePanel, State.raise_eq]

theorem State.finish_worldKept {s t : State} (h : WorldKept s t) : WorldKept s t.finish := by
  obtain ⟨l, c, ht⟩ := t.finish_eq
  rw [ht]; exact h

/-! ### The world outside is kept -/

/-- Whatever stops it, performing a list leaves the inputs, the configuration and the queue. -/
theorem State.runOps_worldKept (ops : List MicroOp) (s : State) : WorldKept s (State.runOps ops s) := by
  refine State.runOps_induct (P := WorldKept s) (Q := WorldKept s) ⟨rfl, rfl, rfl, rfl⟩ ⟨rfl, rfl, rfl, rfl⟩
    ?ok (fun _ h => State.finish_worldKept h) ?fault ?waiting ?pause
  case ok => intro m _ t h; simpa [WorldKept] using h
  case fault => intro p _ t h; simpa [WorldKept, State.abort_eq] using h
  case waiting => intro p _ t h; simpa [WorldKept] using h
  case pause => intro p t h; simpa [WorldKept] using h

theorem exec_worldKept {i : Instr} {s t : State} (h : exec i s = .next t) : WorldKept s t := by
  rcases exec_cases h with ⟨-, rfl⟩ | ⟨-, _, -, rfl⟩ | ⟨-, -, rfl⟩
  · exact ⟨rfl, rfl, rfl, rfl⟩
  · exact ⟨rfl, rfl, rfl, rfl⟩
  · exact State.runOps_worldKept (expand s.cfg i) ((s.begin i).load (expand s.cfg i))

/-- Only reset latches a configuration (R261). -/
theorem step_cfg {s t : State} (hr : s.resetReq = false) (h : step s = .next t) : t.cfg = s.cfg := by
  rcases step_cases h with ⟨hr', -, -⟩ | ⟨-, -, rfl⟩ | ⟨-, -, rfl⟩ | ⟨-, -, _, _, _, _, -, -, rfl⟩ |
    ⟨-, -, _, _, _, _, -, -, hexec⟩
  · simp [hr] at hr'
  · obtain ⟨-, hcfg, -, -⟩ := State.runOps_worldKept (s.seq.drop s.upc) s
    exact hcfg
  · rfl
  · rfl
  · obtain ⟨-, hcfg, -, -⟩ := exec_worldKept hexec
    exact hcfg

/-! ### The part of a list that has been performed -/

/-- `t` is between two micro-operations of `ops`, begun in a state with the records of `s`: the port trace has what comes
before `ms` in the list, and `ms` is still to be performed. -/
structure Underway (s : State) (ops ms : List MicroOp) (t : State) : Prop where
  cfg : t.cfg = s.cfg
  resetReq : t.resetReq = s.resetReq
  busy : t.busy = true
  begun : t.begun = false
  replies : t.replies = s.replies
  trace : ∃ done, ops = done ++ ms ∧ t.trace = s.trace ++ traceOf s.cfg.outReg done

/-- What O32 says of the records in the state `t` where a step ends that began to run `ops` in `s`. -/
def RanPart (s : State) (ops : List MicroOp) (t : State) : Prop :=
  ∃ done, t.trace = s.trace ++ done ∧ done <+: traceOf s.cfg.outReg ops ∧
    (t.busy = false → t.resetReq = s.resetReq) ∧
    (t.replies = s.replies ++ [⟨s.issuer, .ok⟩] → done = traceOf s.cfg.outReg ops)

variable {s t : State} {ops ms : List MicroOp}

/-- A step that returns no `Ok` may end behind any first part of the list. -/
theorem RanPart.of_stopped {done later : List MicroOp} (hops : ops = done ++ later)
    (htrace : t.trace = s.trace ++ traceOf s.cfg.outReg done) (hreset : t.busy = false → t.resetReq = s.resetReq)
    (hstatus : t.replies ≠ s.replies ++ [⟨s.issuer, .ok⟩]) : RanPart s ops t :=
  ⟨_, htrace, by rw [hops, traceOf_append]; exact List.prefix_append .., hreset, fun h => absurd h hstatus⟩

theorem Underway.okStep {m : MicroOp} (h : Underway s ops (m :: ms) t) : Underway s ops ms (t.okStep m) := by
  obtain ⟨done, hops, htrace⟩ := h.trace
  obtain ⟨hadd, hbegun⟩ := State.okRun_trace (ops := [m]) h.begun
  refine ⟨by simp [h.cfg], by simp [h.resetReq], by simp [h.busy], hbegun, by simp [h.replies],
    done ++ [m], by simp [hops], ?_⟩
  calc (t.okStep m).trace = t.trace ++ traceOf t.cfg.outReg [m] := hadd
    _ = s.trace ++ traceOf s.cfg.outReg (done ++ [m]) := by simp [htrace, h.cfg, traceOf_append]

theorem Underway.finish (h : Underway s ops [] t) : RanPart s ops t.finish := by
  obtain ⟨done, hops, htrace⟩ := h.trace
  obtain ⟨l, c, ht⟩ := t.finish_eq
  rw [ht]
  exact ⟨_, htrace, by simp [hops], fun _ => h.resetReq, fun _ => by simp [hops]⟩

/-- A primitive that starts enters the port trace, however it is answered (R13, R55). -/
theorem Underway.startCall_trace {p : Primitive} (h : Underway s ops (.port p :: ms) t) :
    ∃ done, ops = done ++ ms ∧ (t.startCall p).trace = s.trace ++ traceOf s.cfg.outReg done := by
  obtain ⟨done, hops, htrace⟩ := h.trace
  obtain ⟨hflight, -⟩ : t.inFlight = false ∧ t.timerOn = false := by simpa [State.begun] using h.begun
  exact ⟨done ++ [.port p], by simp [hops], by simp [hflight, htrace, h.cfg, traceOf_append, traceOf]⟩

theorem Underway.fault {p : Primitive} (h : Underway s ops (.port p :: ms) t) :
    RanPart s ops (t.startCall p).takeAnswer.callFault.abort := by
  obtain ⟨done, hops, htrace⟩ := h.startCall_trace
  rw [State.abort_eq]
  exact .of_stopped hops htrace (fun _ => by simp [h.resetReq]) (by simp [h.replies])

theorem Underway.waiting {p : Primitive} (h : Underway s ops (.port p :: ms) t) :
    RanPart s ops (t.startCall p).takeAnswer := by
  obtain ⟨done, hops, htrace⟩ := h.startCall_trace
  exact .of_stopped hops htrace (fun _ => by simp [h.resetReq]) (by simp [h.replies])

/-- A micro-operation that starts adds its own entry, if it has one. -/
theorem State.startNext_trace (us : Nat) (next : Option MicroOp) (h : t.begun = false) :
    (t.startNext us next).trace = t.trace ++ traceOf t.cfg.outReg next.toList := by
  obtain ⟨hflight, htimer⟩ : t.inFlight = false ∧ t.timerOn = false := by simpa [State.begun] using h
  rcases next with _ | (p | d | w)
  · simp [State.startNext, traceOf]
  · simp [State.startNext, traceOf, hflight]
  · simp [State.startNext, traceOf, htimer]
  · simp [State.startNext, traceOf]

theorem Underway.pause (p : Pause) (h : Underway s ops ms t) : RanPart s ops (t.pauseAt p ms.head?) := by
  have hreset : (t.pauseAt p ms.head?).busy = false → (t.pauseAt p ms.head?).resetReq = s.resetReq := fun hidle => by
    simp [h.busy] at hidle
  have hstatus : (t.pauseAt p ms.head?).replies ≠ s.replies ++ [⟨s.issuer, .ok⟩] := by simp [h.replies]
  obtain ⟨done, hops, htrace⟩ := h.trace
  cases hp : p.started with
  | none =>
    exact .of_stopped hops (by simpa [State.pauseAt, hp] using htrace) hreset hstatus
  | some us =>
    have hcut : ops = (done ++ ms.head?.toList) ++ ms.tail := by cases ms <;> simp [hops]
    refine .of_stopped hcut ?_ hreset hstatus
    simp [State.pauseAt, hp, State.startNext_trace _ _ h.begun, htrace, h.cfg, traceOf_append]

/-- Performing `ms`, with `later` behind it: it is enough to know what happens after the last of `ms`. -/
theorem Underway.runList {last : State → State} {later : List MicroOp} (h : Underway s ops (ms ++ later) t)
    (hlast : ∀ u, Underway s ops later u → RanPart s ops (last u)) :
    RanPart s ops (State.runList last ms t) :=
  State.runList_induct (P := fun l u => Underway s ops (l ++ later) u) h
    (fun _ _ _ hu => hu.okStep) (fun u hu => hlast u hu) (fun _ _ _ hu => hu.fault) (fun _ _ _ hu => hu.waiting)

theorem Underway.takePause (h : Underway s ops ms t) : Underway s ops ms t.takePause :=
  ⟨h.cfg, h.resetReq, h.busy, h.begun, h.replies, h.trace⟩

theorem Underway.runOps (h : Underway s ops ops t) : RanPart s ops (State.runOps ops t) := by
  rcases State.runOps_cases ops t with ⟨-, hrun⟩ | ⟨p, -, -, -, hrun⟩ | ⟨-, -, -, -, hrun⟩ <;> rw [hrun]
  · exact Underway.runList (later := []) (by simpa using h) fun _ hu => hu.finish
  · rw [← List.head?_drop]
    exact Underway.runList (later := ops.drop p.done) (by simpa using h.takePause) fun _ hu => hu.pause p
  · exact Underway.runList (later := []) (by simpa using h.takePause) fun _ hu => hu.finish

/-- An admitted operation starts with its whole list before it and nothing in flight (R120). -/
theorem Underway.start (i : Instr) (ops : List MicroOp) (s : State) : Underway s ops ops ((s.begin i).load ops) :=
  ⟨rfl, rfl, rfl, rfl, rfl, [], rfl, by simp [traceOf]⟩

/-! ### Refusals -/

theorem State.guard_ne_ok (s : State) : s.guard ≠ some .ok := by
  unfold State.guard; split <;> simp

theorem gotoRefusal_ne_ok (row : BitVec 4) (column : BitVec 8) (s : State) : gotoRefusal row column s ≠ some .ok := by
  unfold gotoRefusal
  split
  next st h => exact h ▸ s.guard_ne_ok
  next => split <;> simp

/-- A refusal is an error (R222, R223): its status is never `Ok`. -/
theorem refusalOf_ne_ok (i : Instr) (s : State) : refusalOf i s ≠ some .ok := by
  unfold refusalOf
  split
  · simp
  · exact gotoRefusal_ne_ok _ _ s
  all_goals exact s.guard_ne_ok

theorem RanPart.of_refused {st : Status} (h : st ≠ .ok) :
    RanPart s ops { s with busy := false, replies := s.replies ++ [⟨s.issuer, st⟩] } :=
  .of_stopped (done := []) rfl (by simp [traceOf]) (fun _ => rfl) (by simp [h])

theorem exec_ranPart {i : Instr} (hb : s.busy = false) (h : exec i s = .next t) : RanPart s (expand s.cfg i) t := by
  rcases exec_cases h with ⟨hb', -⟩ | ⟨-, st, hst, rfl⟩ | ⟨-, -, rfl⟩
  · simp [hb] at hb'
  · exact .of_refused fun hok => refusalOf_ne_ok i s (hok ▸ hst)
  · exact (Underway.start i _ s).runOps

/-! ### Reset and its configuration -/

/-- The configuration in use after power-up is the one at the inputs, so it is legal with them (R36, R261). -/
theorem State.powerOn_legal {c : Straps} (h : c.Legal) (timing : Timing) (outReg : Nat) :
    (State.powerOn c timing outReg).cfg.Legal ∧ (State.powerOn c timing outReg).straps.Legal := ⟨h, h⟩

theorem Config.straps_legal : Config.straps.Legal := by decide

theorem State.applyReset_legal (h : s.straps.Legal) : s.applyReset.cfg.Legal := h

theorem State.fetch_illegal (hr : s.resetReq = true) (hs : ¬ s.straps.Legal) :
    s.fetch = .refuse .illegalConfiguration := by
  rw [State.fetch, if_pos hr, if_neg hs]

end Sys2Proof.Machine

/-! ### The obligations -/

open Sys2Proof Sys2Proof.Machine

/-- Settles O32: the records are followed through the list by `Underway`, to each way a step can end. -/
theorem traceIsPartOfList : Obligations.TraceIsPartOfList := by
  intro i s t hb h
  obtain ⟨done, htrace, hprefix, hreset, hok⟩ := exec_ranPart hb h
  exact ⟨done, htrace, hprefix, exec_worldKept h, hreset, hok⟩

/-- Settles O48: a step is a reset, which latches legal inputs, or it leaves the configuration alone. -/
theorem configurationKept : Obligations.ConfigurationKept := by
  intro s t hlegal h
  cases hr : s.resetReq with
  | false =>
    have hcfg := step_cfg hr h
    exact ⟨hcfg ▸ hlegal, by rw [hcfg], by rw [hcfg], fun _ => hcfg, by simp⟩
  | true =>
    rcases step_cases h with ⟨-, hs, rfl⟩ | ⟨hr', -⟩ | ⟨hr', -⟩ | ⟨hr', -⟩ | ⟨hr', -⟩
    · exact ⟨State.applyReset_legal hs, rfl, rfl, by simp, fun _ => ⟨rfl, rfl⟩⟩
    all_goals simp [hr] at hr'

/-- Settles O39: each value is the one `State.powerOn` gives the field. -/
theorem resetValues : Obligations.ResetValues :=
  ⟨rfl, rfl, rfl, rfl, rfl, rfl, rfl, rfl, rfl, rfl, rfl, rfl, rfl, rfl, rfl⟩

/-- Settles O41: reset comes first in `State.fetch` and checks its inputs there. -/
theorem illegalConfigurationRefused : Obligations.IllegalConfigurationRefused := by
  intro s hr hs
  rw [step, State.fetch_illegal hr hs]

/-- Settles O49: the inputs of log 6 are legal, and power-up latches them. -/
theorem configurationAtReset : Obligations.ConfigurationAtReset :=
  State.powerOn_legal Config.straps_legal Config.timing Config.outReg

end

section
/-! # The operation in progress, from where it stands to where its step ends

One induction for every invariant (`State.resume_induct`), one inversion of the step in its terms
(`step_cases_resume`), and where a list ends whose answers are listed (R30, R120, R126). -/

namespace Sys2Proof.Machine

/-! ### One induction for the rest of an operation -/

theorem State.rest_head? (s : State) : s.rest.head? = s.seq[s.upc]? := List.head?_drop

theorem State.rest_eq_cons {s : State} {m : MicroOp} (h : s.seq[s.upc]? = some m) : ∃ ms, s.rest = m :: ms :=
  List.head?_eq_some_iff.mp (s.rest_head?.trans h)

theorem State.rest_okStep {s : State} {m : MicroOp} {ms : List MicroOp} (h : s.rest = m :: ms) :
    (s.okStep m).rest = ms := by
  simp only [State.rest, State.okStep_seq, State.okStep_upc] at *
  rw [← List.drop_drop, h]; rfl

/-- Performing `ms`, the first part of what is left, keeps `P`; `later` is left for `last`. -/
theorem State.runList_rest_induct {P Q : State → Prop} {last : State → State} {ms later : List MicroOp} {s : State}
    (hs : P s) (hb : s.busy = true) (hrest : s.rest = ms ++ later)
    (ok : ∀ m t, t.busy = true → t.seq[t.upc]? = some m → P t → P (t.okStep m))
    (fault : ∀ p t, t.busy = true → t.seq[t.upc]? = some (.port p) → P t →
      Q (t.startCall p).takeAnswer.callFault.abort)
    (waiting : ∀ p t, t.busy = true → t.seq[t.upc]? = some (.port p) → P t → Q (t.startCall p).takeAnswer)
    (hlast : ∀ t, t.busy = true → t.rest = later → P t → Q (last t)) :
    Q (State.runList last ms s) := by
  have next {m : MicroOp} {l : List MicroOp} {t : State} (h : t.rest = (m :: l) ++ later) :
      t.seq[t.upc]? = some m := by rw [← State.rest_head?, h]; rfl
  refine State.runList_induct (P := fun l t => t.busy = true ∧ t.rest = l ++ later ∧ P t) ⟨hb, hrest, hs⟩
    ?_ ?_ ?_ ?_
  · rintro m l t ⟨hb, hr, ht⟩
    exact ⟨by simpa using hb, State.rest_okStep hr, ok m t hb (next hr) ht⟩
  · rintro t ⟨hb, hr, ht⟩; exact hlast t hb hr ht
  · rintro p l t ⟨hb, hr, ht⟩; exact fault p t hb (next hr) ht
  · rintro p l t ⟨hb, hr, ht⟩; exact waiting p t hb (next hr) ht

/-- What holds of a busy block, and is kept by each micro-operation it points at and by the taking of a pause, holds in
the form `Q` where its step ends. -/
theorem State.resume_induct {P Q : State → Prop} {s : State} (hs : P s) (hb : s.busy = true)
    (take : P s.takePause)
    (ok : ∀ m t, t.busy = true → t.seq[t.upc]? = some m → P t → P (t.okStep m))
    (fin : ∀ t, t.busy = true → t.seq[t.upc]? = none → P t → Q t.finish)
    (fault : ∀ p t, t.busy = true → t.seq[t.upc]? = some (.port p) → P t →
      Q (t.startCall p).takeAnswer.callFault.abort)
    (waiting : ∀ p t, t.busy = true → t.seq[t.upc]? = some (.port p) → P t → Q (t.startCall p).takeAnswer)
    (pause : ∀ p t, t.busy = true → P t → Q (t.pauseAt p t.seq[t.upc]?)) :
    Q s.resume := by
  have fin' : ∀ t : State, t.busy = true → t.rest = [] → P t → Q t.finish := fun t hb hr =>
    fin t hb (by rw [← State.rest_head?, hr]; rfl)
  have whole : s.rest = s.rest ++ [] := (List.append_nil _).symm
  change Q (State.runOps s.rest s)
  rcases State.runOps_cases s.rest s with ⟨-, hrun⟩ | ⟨p, -, -, -, hrun⟩ | ⟨-, -, -, -, hrun⟩ <;> rw [hrun]
  · exact State.runList_rest_induct hs hb whole ok fault waiting fin'
  · refine State.runList_rest_induct (later := s.rest.drop p.done) take hb (List.take_append_drop ..).symm
      ok fault waiting fun t hb hr ht => ?_
    rw [← List.head?_drop, ← hr, State.rest_head?]
    exact pause p t hb ht
  · exact State.runList_rest_induct take hb whole ok fault waiting fin'

/-- A pause starts the next micro-operation or does not, and sets the reset input. -/
theorem State.pauseAt_keeps {I : State → Prop} {s : State} {next : Option MicroOp} (p : Pause)
    (free : ∀ t r, I t → I { t with resetReq := r }) (h : I s) (started : ∀ us, I (s.startNext us next)) :
    I (s.pauseAt p next) := by
  unfold State.pauseAt
  cases p.started with
  | none => exact free _ _ h
  | some us => exact free _ _ (started us)

/-! ### The step as the resuming of an operation -/

/-- The block with `i` admitted and none of its list performed (R120). -/
def State.start (i : Instr) (s : State) : State := (s.begin i).load (expand s.cfg i)

theorem exec_admitted {i : Instr} {s : State} (hb : s.busy = false) (hr : refusalOf i s = none) :
    exec i s = .next (s.start i).resume := by
  rw [exec_eq_operate, hr, State.operate_admitted hb]; rfl

/-- Of an idle block nothing but the queue, its owner and the statuses changes, unless an instruction is admitted. -/
theorem step_cases_resume {s t : State} (h : step s = .next t) :
    (s.straps.Legal ∧ t = s.applyReset) ∨
    (s.busy = true ∧ t = s.resume) ∨
    (s.busy = false ∧ ∃ issuer pending replies,
      t = { s with issuer := issuer, pending := pending, replies := replies }) ∨
    (s.busy = false ∧ ∃ i r others rest, s.pending = r :: others ∧ decode r.offer = .instr i rest ∧
      t = ((s.takeRequest r others rest).start i).resume) := by
  rcases step_cases h with ⟨-, hl, rfl⟩ | ⟨-, hb, rfl⟩ | ⟨-, hb, rfl⟩ | ⟨-, hb, r, others, -, rest, -, -, rfl⟩ |
    ⟨-, hb, r, others, i, rest, hp, hd, hexec⟩
  · exact .inl ⟨hl, rfl⟩
  · exact .inr (.inl ⟨hb, rfl⟩)
  · exact .inr (.inr (.inl ⟨hb, _, _, _, rfl⟩))
  · exact .inr (.inr (.inl ⟨hb, _, _, _, by rw [State.refuseFrame, State.raise_eq, ← hb]; rfl⟩))
  · rcases exec_cases hexec with ⟨hb', -⟩ | ⟨-, _, -, rfl⟩ | ⟨-, -, rfl⟩
    · simp [hb] at hb'
    · exact .inr (.inr (.inl ⟨hb, _, _, _, by rw [← hb]; rfl⟩))
    · exact .inr (.inr (.inr ⟨hb, i, r, others, rest, hp, hd, rfl⟩))

theorem step_busy {s : State} (hr : s.resetReq = false) (hb : s.busy = true) : step s = .next s.resume := by
  simp [step, State.fetch, hr, hb]

/-! ### Listed answers -/

theorem State.resume_noPause {s : State} (h : NoPause s) : s.resume = State.runList State.finish s.rest s :=
  State.runOps_noPause h

/-- Where the answers to `done` are all `ok`, the block comes to what follows it. -/
theorem State.runList_append_ok {last : State → State} {done later : List MicroOp} {s : State}
    (h : s.answers.take (portCount done) = List.replicate (portCount done) .ok) :
    State.runList last (done ++ later) s = State.runList last later (State.okRun done s) := by
  rw [← State.runList_ok (last := State.runList last later) h]
  clear h
  induction done generalizing s with
  | nil => rfl
  | cons m ms ih => simp only [List.cons_append, State.runList, ih]

/-- Primitive number `k` of a list, what comes before it, and the part of the list that ends with it (R126). -/
theorem exists_port_split {k : Nat} {ops : List MicroOp} (h : k < portCount ops) :
    ∃ done p later, ops = done ++ .port p :: later ∧ portCount done = k ∧ cutAt k ops = done ++ [.port p] := by
  induction ops generalizing k with
  | nil => simp at h
  | cons m ms ih =>
    cases m with
    | port p =>
      cases k with
      | zero => exact ⟨[], p, ms, rfl, rfl, rfl⟩
      | succ j =>
        obtain ⟨done, q, later, rfl, hcount, hcut⟩ := ih (by simpa using h)
        exact ⟨.port p :: done, q, later, rfl, by simp [hcount], by simp [cutAt, hcut]⟩
    | dly d =>
      obtain ⟨done, q, later, rfl, hcount, hcut⟩ := ih (by simpa using h)
      exact ⟨.dly d :: done, q, later, rfl, by simp [hcount], by simp [cutAt, hcut]⟩
    | st w =>
      obtain ⟨done, q, later, rfl, hcount, hcut⟩ := ih (by simpa using h)
      exact ⟨.st w :: done, q, later, rfl, by simp [hcount], by simp [cutAt, hcut]⟩

/-- The block comes to primitive number `k`, and its answer is `a`. -/
theorem PortThen.reaches {k : Nat} {a : PortAnswer} {s : State} (hk : k < portCount s.rest) (h : PortThen k a s) :
    ∃ done p later, s.rest = done ++ .port p :: later ∧ cutAt k s.rest = done ++ [.port p] ∧
      (State.okRun done s).nextAnswer = a ∧
      s.resume = State.runList State.finish (.port p :: later) (State.okRun done s) := by
  obtain ⟨done, p, later, hrest, hcount, hcut⟩ := exists_port_split hk
  obtain ⟨hanswers, hpause⟩ := h
  obtain ⟨more, hsplit⟩ : ∃ more, s.answers = List.replicate k .ok ++ a :: more :=
    ⟨s.answers.drop (k + 1), by simpa [hanswers] using (List.take_append_drop (k + 1) s.answers).symm⟩
  refine ⟨done, p, later, hrest, hcut, ?_, ?_⟩
  · have : (State.okRun done s).answers = a :: more := by
      simp [(State.okRun_answers done s).1, hcount, hsplit]
    rw [State.nextAnswer, this]
  · have hok : s.answers.take (portCount done) = List.replicate (portCount done) .ok := by
      simp [hcount, hsplit]
    rw [← State.runList_append_ok hok, ← hrest, State.resume_noPause hpause]

end Sys2Proof.Machine
end

section
/-! # The sequencer's position, the flag and the milestone

That every step keeps `FlightInv` and `ReadyInv` (spec/10_state.md R24 to R32). -/

namespace Sys2Proof.Machine

/-! ### The sequencer's position (R30, R32, R55) -/

/-- Whatever has begun is the micro-operation `upc` points at; so a wait runs only at a wait, and so on. -/
theorem FlightInv.inFlight_false {s : State} (h : FlightInv s) (hm : ∀ p, s.seq[s.upc]? ≠ some (.port p)) :
    s.inFlight = false := by
  obtain ⟨-, hflight, -⟩ := h
  exact Bool.eq_false_iff.mpr fun hf => by
    obtain ⟨-, p, hp, -⟩ := hflight hf
    exact hm p hp

theorem FlightInv.timerOn_false {s : State} (h : FlightInv s) (hm : ∀ d, s.seq[s.upc]? ≠ some (.dly d)) :
    s.timerOn = false := by
  obtain ⟨-, -, htimer⟩ := h
  exact Bool.eq_false_iff.mpr fun ht => by
    obtain ⟨-, d, hd, -⟩ := htimer ht
    exact hm d hd

theorem FlightInv.of_begun_false {s : State} (hupc : s.busy = true → s.upc ≤ s.seq.length) (h : s.begun = false) :
    FlightInv s := by
  obtain ⟨hf, ht⟩ : s.inFlight = false ∧ s.timerOn = false := by simpa [State.begun] using h
  exact ⟨hupc, fun h => by simp [hf] at h, fun h => by simp [ht] at h⟩

/-- A micro-operation that completes leaves nothing begun, also where it had been stopped. -/
theorem FlightInv.okStep_begun {s : State} {m : MicroOp} (h : FlightInv s) (hm : s.seq[s.upc]? = some m) :
    (s.okStep m).begun = false := by
  cases m with
  | port p => simp [State.okStep, State.begun, h.timerOn_false (by simp [hm])]
  | dly d => simp [State.okStep, State.begun, State.wait, h.inFlight_false (by simp [hm])]
  | st w => simp [State.okStep, State.begun, h.timerOn_false (by simp [hm]), h.inFlight_false (by simp [hm])]

theorem FlightInv.okStep {s : State} {m : MicroOp} (h : FlightInv s) (hm : s.seq[s.upc]? = some m) :
    FlightInv (s.okStep m) :=
  .of_begun_false (fun _ => by
    obtain ⟨hlt, -⟩ := List.getElem?_eq_some_iff.mp hm
    simpa using hlt) (h.okStep_begun hm)

/-- A block that is idle, with nothing begun. -/
theorem FlightInv.idle {s : State} (hb : s.busy = false) (h : s.begun = false) : FlightInv s :=
  .of_begun_false (fun hb' => by simp [hb] at hb') h

/-- A primitive that starts, or has started and not been answered, is in flight and last in the port trace. -/
theorem FlightInv.startCall {s : State} {p : Primitive} (h : FlightInv s) (hb : s.busy = true)
    (hp : s.seq[s.upc]? = some (.port p)) : FlightInv (s.startCall p) := by
  have hquiet : s.timerOn = false := h.timerOn_false (by simp [hp])
  obtain ⟨hupc, hflight, -⟩ := h
  refine ⟨by simpa using hupc, fun _ => ⟨by simpa using hb, p, by simpa using hp, ?_⟩, by simp [hquiet]⟩
  cases hf : s.inFlight with
  | false => simp [hf]
  | true =>
    obtain ⟨-, q, hq, hlast⟩ := hflight hf
    obtain rfl : q = p := by simpa [hq] using hp
    simpa [hf] using hlast

/-- A wait that starts, or goes on, and is stopped is running, last in the port trace, with no more left than it had. -/
theorem FlightInv.passTime {s : State} {d : Nat} (us : Nat) (h : FlightInv s) (hb : s.busy = true)
    (hd : s.seq[s.upc]? = some (.dly d)) : FlightInv ((s.startWait d).passTime us) := by
  have hquiet : s.inFlight = false := h.inFlight_false (by simp [hd])
  obtain ⟨hupc, -, htimer⟩ := h
  refine ⟨by simpa using hupc, by simp [hquiet], fun _ => ⟨by simpa using hb, d, by simpa using hd, ?_⟩⟩
  cases ht : s.timerOn with
  | false => simp [ht, State.startWait_timer _ d ht]
  | true =>
    obtain ⟨-, d', hd', hlast, hleft⟩ := htimer ht
    obtain rfl : d' = d := by simpa [hd'] using hd
    have : (s.startWait d').timer = s.timer := by simp [State.startWait, ht]
    refine ⟨by simpa [ht] using hlast, ?_⟩
    simp only [State.passTime_timer, State.passTime_cfg, State.startWait_cfg, this]
    omega

theorem FlightInv.pauseAt {s : State} (p : Pause) (h : FlightInv s) (hb : s.busy = true) :
    FlightInv (s.pauseAt p s.seq[s.upc]?) := by
  have started (us : Nat) : FlightInv (s.startNext us s.seq[s.upc]?) := by
    cases hm : s.seq[s.upc]? with
    | none => exact h
    | some m =>
      cases m with
      | port p => exact h.startCall hb hm
      | dly d => exact h.passTime us hb hm
      | st w => exact h
  exact State.pauseAt_keeps p (fun _ _ h => h) h started

theorem FlightInv.finish {s : State} (h : FlightInv s) (hend : s.seq[s.upc]? = none) : FlightInv s.finish := by
  have hbegun : s.begun = false := by
    simp [State.begun, h.timerOn_false (by simp [hend]), h.inFlight_false (by simp [hend])]
  obtain ⟨l, c, ht⟩ := s.finish_eq
  rw [ht]; exact .idle rfl hbegun

theorem FlightInv.abort {s : State} {p : Primitive} (h : FlightInv s) (hp : s.seq[s.upc]? = some (.port p)) :
    FlightInv (s.startCall p).takeAnswer.callFault.abort := by
  rw [State.abort_eq]
  exact .idle rfl (by simp [State.begun, h.timerOn_false (by simp [hp])])

theorem FlightInv.resume {s : State} (h : FlightInv s) (hb : s.busy = true) : FlightInv s.resume :=
  State.resume_induct h hb h (fun _ _ _ hm h => h.okStep hm) (fun _ _ hend h => h.finish hend)
    (fun _ _ _ hp h => h.abort hp) (fun _ _ hb hp h => h.startCall hb hp) (fun p _ hb h => h.pauseAt p hb)

theorem FlightInv.start (i : Instr) (s : State) : FlightInv (s.start i) :=
  .of_begun_false (fun _ => Nat.zero_le _) rfl

/-! ### State writes (R24, R25, R152) -/

/-- The list has no `ST`. -/
def writeFree (ops : List MicroOp) : Prop := ops.all (fun m => !m.isState) = true

theorem writeFree.not_isState {ops : List MicroOp} (h : writeFree ops) {m : MicroOp} (hm : m ∈ ops) :
    m.isState = false := by
  simpa using List.all_eq_true.mp h m hm

theorem writeFree_append {as bs : List MicroOp} (ha : writeFree as) (hb : writeFree bs) : writeFree (as ++ bs) := by
  simpa [writeFree] using ⟨by simpa [writeFree] using ha, by simpa [writeFree] using hb⟩

theorem sendByte_writeFree (c : Setup) (mode : Mode) (b : Byte) : writeFree (sendByte c mode b) := rfl

theorem sendData_writeFree (c : Setup) (bytes : List Byte) : writeFree (sendData c bytes) := by
  induction bytes with
  | nil => rfl
  | cons b bs ih => exact writeFree_append (sendByte_writeFree c .data b) ih

theorem isInit_iff {i : Instr} : isInit i = true ↔ ∃ o, i = .init o := by
  cases i <;> simp [isInit]

/-- Only INIT has state writes. -/
theorem expand_writeFree (c : Setup) {i : Instr} (h : isInit i = false) : writeFree (expand c i) := by
  cases i with
  | init o => simp [isInit] at h
  | loadglyphs t =>
    exact writeFree_append (writeFree_append (sendByte_writeFree ..) (sendData_writeFree c t)) (sendByte_writeFree ..)
  | writestring t => exact sendData_writeFree c t
  | _ => rfl

/-- INIT's list between its first state write and its last two. -/
def initBody (c : Setup) (o : InitOptions) : List MicroOp :=
  reach .unpowered :: (forceIdle c ++ bringUp c ++ applySettings c o)

theorem expandInit_eq (c : Setup) (o : InitOptions) :
    expandInit c o =
      .st (.initialized false) :: (initBody c o ++ [reach .ready, .st (.initialized true)]) := by
  simp [expandInit, initBody]

theorem initBody_flag {c : Setup} {o : InitOptions} {m : MicroOp} (h : m ∈ initBody c o) (v : Bool) :
    m ≠ .st (.initialized v) := by
  rintro rfl
  simp [initBody, reach, forceIdle, bringUp, bringUpPulse, applySettings, sendByte, sendNibble, pulseEN, addrReset,
    clearSeq, sendSettled] at h

/-- What INIT performs at each place of its list: the flag is written first and last only, the milestone `Ready` right
before the last (R152, R157). -/
theorem expandInit_getElem? {c : Setup} {o : InitOptions} {k : Nat} {m : MicroOp} (h : (expandInit c o)[k]? = some m) :
    (k = 0 ∧ m = .st (.initialized false)) ∨
    (0 < k ∧ k + 2 < (expandInit c o).length ∧ ∀ v, m ≠ .st (.initialized v)) ∨
    (0 < k ∧ k + 2 = (expandInit c o).length ∧ m = reach .ready) ∨
    (0 < k ∧ k + 1 = (expandInit c o).length ∧ m = .st (.initialized true)) := by
  rw [expandInit_eq] at *
  cases k with
  | zero => exact .inl ⟨rfl, by simpa using h.symm⟩
  | succ k =>
    simp only [List.getElem?_cons_succ, List.length_cons, List.length_append, List.length_nil] at *
    by_cases hk : k < (initBody c o).length
    · rw [List.getElem?_append_left hk] at h
      exact .inr (.inl ⟨by omega, by omega, initBody_flag (List.mem_of_getElem? h)⟩)
    · rw [List.getElem?_append_right (by omega)] at h
      match hd : k - (initBody c o).length, h with
      | 0, h => exact .inr (.inr (.inl ⟨by omega, by omega, by simpa using h.symm⟩))
      | 1, h => exact .inr (.inr (.inr ⟨by omega, by omega, by simpa using h.symm⟩))

theorem two_lt_expandInit_length (c : Setup) (o : InitOptions) : 2 < (expandInit c o).length := by
  simp [expandInit_eq, initBody]

/-! ### The flag and the milestone (R28) -/

/-- Only the fields it speaks of matter to the invariant. -/
theorem ReadyInv.congr {s t : State} (h : ReadyInv s) (hbusy : t.busy = s.busy) (hop : t.op = s.op)
    (hseq : t.seq = s.seq) (hupc : t.upc = s.upc) (hcfg : t.cfg = s.cfg) (hflag : t.initialized = s.initialized)
    (hstate : t.initState = s.initState) : ReadyInv t := by
  unfold ReadyInv FlagMatches at *
  rw [hbusy, hop, hseq, hupc, hcfg, hflag, hstate]; exact h

theorem ReadyInv_idle {s : State} (hb : s.busy = false) : ReadyInv s ↔ FlagMatches s := by
  unfold ReadyInv; rw [hb]

theorem ReadyInv_init {s : State} {o : InitOptions} (hb : s.busy = true) (hop : s.op = some (.init o)) :
    ReadyInv s ↔ s.seq = expandInit s.cfg o ∧ s.upc ≤ s.seq.length ∧
      (0 < s.upc → (s.initialized = true ↔ s.upc = s.seq.length)) ∧ (s.seq.length ≤ s.upc + 1 → s.initState = .ready) := by
  unfold ReadyInv; rw [hb, hop]

theorem ReadyInv_other {s : State} {i : Instr} (hb : s.busy = true) (hop : s.op = some i) (hi : isInit i = false) :
    ReadyInv s ↔ FlagMatches s ∧ writeFree s.seq := by
  unfold ReadyInv
  rw [hb, hop]
  cases i with
  | init o => simp [isInit] at hi
  | _ => exact Iff.rfl

/-- A busy block runs an INIT or another operation. -/
theorem ReadyInv.op_cases {s : State} (h : ReadyInv s) (hb : s.busy = true) :
    (∃ o, s.op = some (.init o)) ∨ ∃ i, s.op = some i ∧ isInit i = false := by
  cases hop : s.op with
  | none => unfold ReadyInv at h; rw [hb, hop] at h; exact h.elim
  | some i =>
    cases i with
    | init o => exact .inl ⟨o, rfl⟩
    | _ => exact .inr ⟨_, rfl, rfl⟩

/-- An INIT may begin with any flag and milestone (R152). -/
theorem ReadyInv.start_init (o : InitOptions) (s : State) : ReadyInv (s.start (.init o)) := by
  have hlen := two_lt_expandInit_length s.cfg o
  refine (ReadyInv_init rfl rfl).mpr ⟨rfl, Nat.zero_le _, fun h => (Nat.lt_irrefl 0 h).elim, fun h => ?_⟩
  change (expandInit s.cfg o).length ≤ 0 + 1 at h
  omega

theorem ReadyInv.start {s : State} (h : FlagMatches s) (i : Instr) : ReadyInv (s.start i) := by
  cases hi : isInit i with
  | false => exact (ReadyInv_other rfl rfl hi).mpr ⟨h, expand_writeFree s.cfg hi⟩
  | true =>
    obtain ⟨o, rfl⟩ := isInit_iff.mp hi
    exact .start_init o s

theorem State.okStep_writeFlag (s : State) (v : Bool) : (s.okStep (.st (.initialized v))).initialized = v := rfl

theorem State.okStep_flag {s : State} {m : MicroOp} (h : ∀ v, m ≠ .st (.initialized v)) :
    (s.okStep m).initialized = s.initialized := by
  cases m with
  | st w =>
    cases w with
    | initialized v => exact absurd rfl (h v)
    | initState v => rfl
  | port p => simp [State.okStep]
  | dly d => simp [State.okStep]

theorem ReadyInv.okStep {s : State} {m : MicroOp} (h : ReadyInv s) (hb : s.busy = true)
    (hm : s.seq[s.upc]? = some m) : ReadyInv (s.okStep m) := by
  rcases h.op_cases hb with ⟨o, hop⟩ | ⟨i, hop, hi⟩
  · rw [ReadyInv_init hb hop] at h
    obtain ⟨hseq, -, hflag, hready⟩ := h
    rw [ReadyInv_init (o := o) (by simpa using hb) (by simpa using hop)]
    simp only [State.okStep_seq, State.okStep_cfg, State.okStep_upc, hseq] at *
    have hlen := two_lt_expandInit_length s.cfg o
    refine ⟨trivial, (List.getElem?_eq_some_iff.mp hm).1, ?_⟩
    rcases expandInit_getElem? hm with ⟨hk, rfl⟩ | ⟨hpos, hk, hother⟩ | ⟨hpos, hk, rfl⟩ | ⟨hpos, hk, rfl⟩
    · exact ⟨fun _ => by rw [State.okStep_writeFlag]; simp; omega, fun _ => by omega⟩
    · exact ⟨fun _ => by rw [State.okStep_flag hother, hflag hpos]; omega, fun _ => by omega⟩
    · exact ⟨fun _ => by rw [State.okStep_flag (by simp [reach]), hflag hpos]; omega, fun _ => rfl⟩
    · exact ⟨fun _ => by rw [State.okStep_writeFlag]; simp [hk], fun _ => hready (by omega)⟩
  · rw [ReadyInv_other hb hop hi] at h
    obtain ⟨hmatch, hfree⟩ := h
    obtain ⟨hflag, hstate⟩ := State.okStep_flags (s := s) (hfree.not_isState (List.mem_of_getElem? hm))
    rw [ReadyInv_other (i := i) (by simpa using hb) (by simpa using hop) hi]
    exact ⟨by rw [FlagMatches, hflag, hstate]; exact hmatch, by simpa using hfree⟩

theorem ReadyInv.finish {s : State} (h : ReadyInv s) (hb : s.busy = true) (hend : s.seq[s.upc]? = none) :
    ReadyInv s.finish := by
  have hmatch : FlagMatches s := by
    rcases h.op_cases hb with ⟨o, hop⟩ | ⟨i, hop, hi⟩
    · obtain ⟨hseq, hupc, hflag, hready⟩ := (ReadyInv_init hb hop).mp h
      have hlen := two_lt_expandInit_length s.cfg o
      have : s.seq.length ≤ s.upc := List.getElem?_eq_none_iff.mp hend
      rw [hseq] at *
      exact ⟨fun _ => hready (by omega), fun _ => (hflag (by omega)).mpr (by omega)⟩
    · exact ((ReadyInv_other hb hop hi).mp h).1
  obtain ⟨l, c, ht⟩ := s.finish_eq
  rw [ht]; exact (ReadyInv_idle rfl).mpr hmatch

/-- An INIT that faults does so between its first state write and its last. -/
theorem ReadyInv.abort {s : State} {p : Primitive} (h : ReadyInv s) (hb : s.busy = true)
    (hp : s.seq[s.upc]? = some (.port p)) : ReadyInv (s.startCall p).takeAnswer.callFault.abort := by
  rw [State.abort_eq, ReadyInv_idle rfl]
  rcases h.op_cases hb with ⟨o, hop⟩ | ⟨i, hop, hi⟩
  · obtain ⟨hseq, -, hflag, -⟩ := (ReadyInv_init hb hop).mp h
    have hlt : s.upc < s.seq.length := (List.getElem?_eq_some_iff.mp hp).1
    have hpos : 0 < s.upc := by
      rw [hseq] at hp
      rcases expandInit_getElem? hp with ⟨-, hm⟩ | ⟨hpos, -⟩ | ⟨hpos, -⟩ | ⟨hpos, -⟩
      · simp at hm
      all_goals exact hpos
    have : s.initialized ≠ true := fun hi => by
      have := (hflag hpos).mp hi
      omega
    simp [FlagMatches, hop, isInit, this]
  · simpa [FlagMatches, hop, hi] using ((ReadyInv_other hb hop hi).mp h).1

theorem ReadyInv.resume {s : State} (h : ReadyInv s) (hb : s.busy = true) : ReadyInv s.resume :=
  State.resume_induct h hb h (fun _ _ hb hm h => h.okStep hb hm) (fun _ hb hend h => h.finish hb hend)
    (fun _ _ hb hp h => h.abort hb hp)
    (fun _ _ _ _ h => h.congr (by simp) (by simp) (by simp) (by simp) (by simp) (by simp) (by simp))
    (fun _ _ _ h => h.congr (by simp) (by simp) (by simp) (by simp) (by simp) (by simp) (by simp))

end Sys2Proof.Machine
end

section
/-! # What a resumed, a stopped and a faulted operation leave

The statuses, the flag and the queue through a step, and the state an operation is in where it ends or is stopped (R26,
R96, R126, R260). -/

namespace Sys2Proof.Machine

/-! ### Statuses (R96, R224) -/

theorem State.guard_eq_some {s : State} {st : Status} (h : s.guard = some st) : st = .notInitialized := by
  unfold State.guard at h
  split at h
  · simp at h
  · simpa using h.symm

theorem gotoRefusal_eq_some {row : BitVec 4} {column : BitVec 8} {s : State} {st : Status}
    (h : gotoRefusal row column s = some st) : st = .notInitialized ∨ st = .outOfRange := by
  unfold gotoRefusal at h
  split at h
  next hg => exact .inl (State.guard_eq_some (h ▸ hg))
  next =>
    split at h
    · simp at h
    · exact .inr (by simpa using h.symm)

/-- Admission refuses with these two statuses alone (R180, R183). -/
theorem refusalOf_eq_some {i : Instr} {s : State} {st : Status} (h : refusalOf i s = some st) :
    st = .notInitialized ∨ st = .outOfRange := by
  unfold refusalOf at h
  split at h
  · simp at h
  · exact gotoRefusal_eq_some h
  all_goals exact .inl (State.guard_eq_some h)

/-- The guard stands before every other check (R180, R229, R233). -/
theorem refusalOf_notInitialized {i : Instr} {s : State} (hi : isInit i = false) (h : s.initialized = false) :
    refusalOf i s = some .notInitialized := by
  have hg : s.guard = some .notInitialized := by simp [State.guard, h]
  cases i with
  | init o => simp [isInit] at hi
  | goto row column => simp [refusalOf, gotoRefusal, hg]
  | _ => exact hg

/-- A refusal changes nothing but the statuses. -/
theorem exec_refused {i : Instr} {s : State} {st : Status} (hb : s.busy = false) (h : refusalOf i s = some st) :
    ∃ t, exec i s = .next t ∧ RefusedWith st s t := by
  refine ⟨s.raise st, by rw [exec_eq_operate, h, State.operate_refused hb], ?_⟩
  rw [RefusedWith, State.raise_eq, ← hb]

/-- `t` has the statuses of `s` and at most one more, which is not `BufferOverflow`. -/
def RepliesOnce (s t : State) : Prop :=
  ∃ new, t.replies = s.replies ++ new ∧ new.length ≤ 1 ∧ ∀ r ∈ new, r.status ≠ .bufferOverflow

theorem RepliesOnce.none {s t : State} (h : t.replies = s.replies) : RepliesOnce s t :=
  ⟨[], by simp [h], by simp, by simp⟩

theorem RepliesOnce.one {s t : State} {host : Nat} {st : Status} (h : t.replies = s.replies ++ [⟨host, st⟩])
    (hst : st ≠ .bufferOverflow) : RepliesOnce s t :=
  ⟨[⟨host, st⟩], h, by simp, by simpa using hst⟩

theorem RepliesOnce.runOps (ops : List MicroOp) (s : State) : RepliesOnce s (State.runOps ops s) := by
  refine State.runOps_induct (P := fun t => t.replies = s.replies) (Q := RepliesOnce s) rfl rfl
    ?ok ?fin ?fault ?waiting ?pause
  case ok => intro m _ t h; simpa using h
  case fin =>
    intro t h
    obtain ⟨l, c, ht⟩ := t.finish_eq
    exact .one (host := t.issuer) (st := .ok) (by simp [ht, h]) (by simp)
  case fault => intro p _ t h; exact .one (host := t.issuer) (st := .busFault) (by simp [State.abort_eq, h]) (by simp)
  case waiting => intro p _ t h; exact .none (by simpa using h)
  case pause => intro p t h; exact .none (by simpa using h)

theorem exec_repliesOnce {i : Instr} {s t : State} (h : exec i s = .next t) : RepliesOnce s t := by
  rcases exec_cases h with ⟨-, rfl⟩ | ⟨-, st, hst, rfl⟩ | ⟨-, -, rfl⟩
  · exact .none rfl
  · exact .one rfl (by rcases refusalOf_eq_some hst with rfl | rfl <;> simp)
  · exact RepliesOnce.runOps (expand s.cfg i) ((s.begin i).load (expand s.cfg i))

theorem step_repliesOnce {s t : State} (h : step s = .next t) : RepliesOnce s t := by
  rcases step_cases h with ⟨-, -, rfl⟩ | ⟨-, -, rfl⟩ | ⟨-, -, rfl⟩ | ⟨-, -, r, _, _, _, -, -, rfl⟩ |
    ⟨-, -, r, others, _, rest, -, -, hexec⟩
  · exact .none rfl
  · exact .runOps _ s
  · exact .none rfl
  · exact .one (host := r.host) (st := .illegalCommand) rfl (by simp)
  · exact exec_repliesOnce (s := s.takeRequest r others rest) hexec

/-! ### The flag and the milestone outside INIT (R24, R25, R230) -/

/-- An operation without state writes that is not an INIT leaves both, whatever stops it. -/
theorem State.runOps_flagsKept {s : State} {ops : List MicroOp} (hfree : writeFree ops)
    (hop : s.op.any isInit = false) : FlagsKept s (State.runOps ops s) := by
  refine State.runOps_induct (P := fun t => t.op = s.op ∧ FlagsKept s t) (Q := FlagsKept s)
    ⟨rfl, rfl, rfl⟩ ⟨rfl, rfl, rfl⟩ ?ok ?fin ?fault ?waiting ?pause
  case ok =>
    rintro m hm t ⟨hop', hflag, hstate⟩
    obtain ⟨hflag', hstate'⟩ := State.okStep_flags (s := t) (hfree.not_isState hm)
    exact ⟨by simpa using hop', hflag'.trans hflag, hstate'.trans hstate⟩
  case fin =>
    rintro t ⟨-, h⟩
    obtain ⟨l, c, ht⟩ := t.finish_eq
    rw [ht]; exact h
  case fault => rintro p - t ⟨hop', h⟩; simpa [FlagsKept, State.abort_eq, hop', hop] using h
  case waiting => rintro p - t ⟨-, h⟩; simpa [FlagsKept] using h
  case pause => rintro p t ⟨-, h⟩; simpa [FlagsKept] using h

theorem exec_flagsKept {i : Instr} {s t : State} (hi : isInit i = false) (h : exec i s = .next t) : FlagsKept s t := by
  rcases exec_cases h with ⟨-, rfl⟩ | ⟨-, st, -, rfl⟩ | ⟨-, -, rfl⟩
  · exact ⟨rfl, rfl⟩
  · exact ⟨rfl, rfl⟩
  · exact State.runOps_flagsKept (s := (s.begin i).load _) (expand_writeFree s.cfg hi) hi

/-! ### The queue (R26, R80) -/

/-- Hosts put `q` on the command port in place of what waits there. -/
def State.offer (q : List Request) (s : State) : State := { s with pending := q }

theorem State.startCall_offer (q : List Request) (p : Primitive) (s : State) :
    (s.offer q).startCall p = (s.startCall p).offer q := by
  rw [State.startCall.eq_def p s, apply_ite (State.offer q)]; rfl

theorem State.startWait_offer (q : List Request) (d : Nat) (s : State) :
    (s.offer q).startWait d = (s.startWait d).offer q := by
  rw [State.startWait.eq_def d s, apply_ite (State.offer q)]; rfl

theorem State.drive_offer (q : List Request) (v : Byte) (s : State) : (s.offer q).drive v = (s.drive v).offer q := by
  rw [State.drive.eq_def v s, apply_ite (State.offer q)]; rfl

theorem State.callOk_offer (q : List Request) (p : Primitive) (s : State) :
    (s.offer q).callOk p = (s.callOk p).offer q := State.drive_offer q _ { s with inFlight := false }

theorem State.perform_offer (q : List Request) (m : MicroOp) (s : State) :
    (s.offer q).perform m = ((s.perform m).1, (s.perform m).2.offer q) := by
  cases m with
  | port p =>
    simp only [State.perform, State.startCall_offer]
    generalize s.startCall p = t
    have hanswer : (t.offer q).nextAnswer = t.nextAnswer := rfl
    rw [hanswer]
    cases t.nextAnswer with
    | ok => exact congrArg (Prod.mk _) (State.callOk_offer q p t.takeAnswer)
    | fault => rfl
    | waiting => rfl
  | dly d => simp only [State.perform, State.wait, State.startWait_offer]; rfl
  | st w => cases w <;> rfl

theorem State.startNext_offer (q : List Request) (us : Nat) (m : Option MicroOp) (s : State) :
    (s.offer q).startNext us m = (s.startNext us m).offer q := by
  rcases m with _ | (p | d | w)
  · rfl
  · exact State.startCall_offer q p s
  · simp only [State.startNext, State.startWait_offer]; rfl
  · rfl

theorem State.pauseAt_offer (q : List Request) (p : Pause) (m : Option MicroOp) (s : State) :
    (s.offer q).pauseAt p m = (s.pauseAt p m).offer q := by
  unfold State.pauseAt
  cases p.started with
  | none => rfl
  | some us => simp only [State.startNext_offer]; rfl

theorem State.panelAfter_offer (q : List Request) (i : Instr) (s : State) :
    (s.offer q).panelAfter i = (s.panelAfter i).offer q := by
  rw [State.panelAfter.eq_def i s, apply_ite (State.offer q), apply_ite (State.offer q)]; rfl

theorem State.finish_offer (q : List Request) (s : State) : (s.offer q).finish = s.finish.offer q := by
  have hop : (s.offer q).op = s.op := rfl
  rw [State.finish, State.finish, hop]
  cases s.op with
  | none => rfl
  | some i => exact congrArg (State.complete .ok) (State.panelAfter_offer q i s)

theorem State.abort_offer (q : List Request) (s : State) : (s.offer q).abort = s.abort.offer q := by
  simp only [State.abort_eq]; rfl

theorem State.runList_offer {last : State → State} (q : List Request)
    (hlast : ∀ s : State, last (s.offer q) = (last s).offer q) (ops : List MicroOp) (s : State) :
    State.runList last ops (s.offer q) = (State.runList last ops s).offer q := by
  induction ops generalizing s with
  | nil => exact hlast s
  | cons m ms ih =>
    simp only [State.runList, State.perform_offer]
    rcases s.perform m with ⟨_ | _ | _, t⟩
    · exact ih t.advance
    · exact State.abort_offer q t
    · rfl

/-- Going on with an operation neither reads nor writes what waits on the command port. -/
theorem State.resume_offer (q : List Request) (s : State) : (s.offer q).resume = s.resume.offer q := by
  have hrest : (s.offer q).rest = s.rest := rfl
  change State.runOps (s.offer q).rest (s.offer q) = (State.runOps s.rest s).offer q
  have hpauses : (s.offer q).pauses = s.pauses := rfl
  simp only [State.runOps, hrest, hpauses]
  split
  · exact State.runList_offer q (State.finish_offer q) ..
  next p _ _ =>
    rw [apply_ite (State.offer q)]
    exact congrArg₂ _ (State.runList_offer q (State.pauseAt_offer q p _) _ s.takePause)
      (State.runList_offer q (State.finish_offer q) _ s.takePause)

/-! ### Where a list ends whose answers are listed (R30, R126, R158) -/

theorem writeFree.drop {ops : List MicroOp} (h : writeFree ops) (n : Nat) : writeFree (ops.drop n) :=
  List.all_eq_true.mpr fun m hm => List.all_eq_true.mp h m (List.mem_of_mem_drop hm)

/-- A micro-operation enters the port trace once, also if it had begun before (R13, R55). -/
theorem FlightInv.okStep_trace {s : State} {m : MicroOp} (h : FlightInv s) (hm : s.seq[s.upc]? = some m) :
    (s.okStep m).trace = s.trace ++ (traceOf s.cfg.outReg [m]).drop s.begun.toNat ∧
      s.begun.toNat ≤ (traceOf s.cfg.outReg [m]).length := by
  cases m with
  | port p =>
    have ht : s.timerOn = false := h.timerOn_false (by simp [hm])
    cases hf : s.inFlight <;> simp [State.okStep, State.begun, traceOf, ht, hf]
  | dly d =>
    have hf : s.inFlight = false := h.inFlight_false (by simp [hm])
    cases ht : s.timerOn <;> simp [State.okStep, State.begun, traceOf, ht, hf]
  | st w =>
    have ht : s.timerOn = false := h.timerOn_false (by simp [hm])
    have hf : s.inFlight = false := h.inFlight_false (by simp [hm])
    simp [State.okStep, State.begun, traceOf, ht, hf]

theorem FlightInv.okRun_trace {s : State} {done later : List MicroOp} (h : FlightInv s)
    (hrest : s.rest = done ++ later) : (State.okRun done s).trace = s.trace ++ (traceOf s.cfg.outReg done).drop s.begun.toNat := by
  cases done with
  | nil => simp [State.okRun, traceOf]
  | cons m ms =>
    have hm : s.seq[s.upc]? = some m := by rw [← State.rest_head?, hrest]; rfl
    obtain ⟨htrace, hle⟩ := h.okStep_trace hm
    obtain ⟨hrun, -⟩ := State.okRun_trace (ops := ms) (h.okStep_begun hm)
    rw [State.okRun_cons, hrun, htrace, State.okStep_cfg, List.append_assoc, ← List.drop_append_of_le_length hle,
      ← traceOf_append]
    rfl

/-- The port trace up to a primitive that has started, whatever it answers. -/
theorem FlightInv.startCall_trace {s : State} {done later : List MicroOp} {p : Primitive} (h : FlightInv s)
    (hrest : s.rest = done ++ .port p :: later) :
    ((State.okRun done s).startCall p).trace =
      s.trace ++ (traceOf s.cfg.outReg (done ++ [.port p])).drop s.begun.toNat := by
  rw [← h.okRun_trace (later := later) (by simpa using hrest), State.okRun_append]
  simp [State.okRun, State.okStep]

/-- The rest of an operation whose primitives all answer `ok` (R30, R120). -/
theorem State.resume_ok {s : State} (hflight : FlightInv s) (h : PortOk (portCount s.rest) s) :
    s.resume.busy = false ∧ s.resume.replies = s.replies ++ [⟨s.issuer, .ok⟩] ∧
      s.resume.trace = s.trace ++ (traceOf s.cfg.outReg s.rest).drop s.begun.toNat ∧ SurroundingsKept s s.resume := by
  have hrun : s.resume = (State.okRun s.rest s).finish := State.runOps_ok h
  obtain ⟨l, c, hfin⟩ := (State.okRun s.rest s).finish_eq
  obtain ⟨⟨⟨-, -, -, hissuer⟩, hreset⟩, -, -, -, -, -, hreplies, -⟩ := State.okRun_kept s.rest s
  rw [hfin] at hrun
  refine ⟨by rw [hrun], by simp [hrun, hreplies, hissuer], ?_, State.runOps_worldKept s.rest s, by simp [hrun, hreset]⟩
  rw [hrun]; exact hflight.okRun_trace (List.append_nil _).symm

/-- The rest of an operation of which a primitive faults (R126, R158, R230). -/
theorem State.resume_fault {s : State} {k : Nat} (hb : s.busy = true) (hflight : FlightInv s) (hready : ReadyInv s)
    (hk : k < portCount s.rest) (h : PortThen k .fault s) :
    s.resume.busy = false ∧ s.resume.inFlight = false ∧ s.resume.replies = s.replies ++ [⟨s.issuer, .busFault⟩] ∧
      s.resume.trace = s.trace ++ (traceOf s.cfg.outReg (cutAt k s.rest)).drop s.begun.toNat ∧
      s.resume.ctrlSync = .unknown ∧ SurroundingsKept s s.resume ∧
      (∀ o, s.op = some (.init o) → s.resume.initialized = false ∧ s.resume.initState = .unpowered) := by
  obtain ⟨done, p, later, hrest, hcut, hanswer, hrun⟩ := h.reaches hk
  rw [State.runList_port_fault _ hanswer, State.abort_eq] at hrun
  obtain ⟨⟨⟨-, -, -, hissuer⟩, hreset⟩, -, hop, -, -, -, hreplies, -⟩ := State.okRun_kept done s
  have hidle : s.resume.busy = false := by rw [hrun]
  have hmatch : FlagMatches s.resume := (ReadyInv_idle hidle).mp (hready.resume hb)
  refine ⟨hidle, by rw [hrun]; rfl, by simp [hrun, hreplies, hissuer], ?_, by rw [hrun],
    ⟨State.runOps_worldKept s.rest s, by simp [hrun, hreset]⟩, fun o ho => ?_⟩
  · rw [hcut, ← hflight.startCall_trace hrest, hrun]; rfl
  · have hstate : s.resume.initState = .unpowered := by simp [hrun, hop, ho, isInit]
    exact ⟨by simpa [FlagMatches, hstate] using hmatch, hstate⟩

/-- The rest of an operation of which a primitive has not answered (93 U5). -/
theorem State.resume_waiting {s : State} {k : Nat} (hb : s.busy = true) (hflight : FlightInv s)
    (hk : k < portCount s.rest) (h : PortThen k .waiting s) :
    s.resume.busy = true ∧ s.resume.inFlight = true ∧ s.resume.replies = s.replies ∧ s.resume.seq = s.seq ∧
      s.resume.op = s.op ∧ s.resume.trace = s.trace ++ (traceOf s.cfg.outReg (cutAt k s.rest)).drop s.begun.toNat ∧
      SurroundingsKept s s.resume := by
  obtain ⟨done, p, later, hrest, hcut, hanswer, hrun⟩ := h.reaches hk
  rw [State.runList_port_waiting _ hanswer] at hrun
  obtain ⟨⟨-, hreset⟩, hbusy, hop, hseq, -, -, hreplies, -⟩ := State.okRun_kept done s
  refine ⟨by simp [hrun, hbusy, hb], by simp [hrun], by simp [hrun, hreplies], by simp [hrun, hseq],
    by simp [hrun, hop], ?_, State.runOps_worldKept s.rest s, by simp [hrun, hreset]⟩
  rw [hcut, ← hflight.startCall_trace hrest, hrun]; rfl

theorem portCount_sendNibble (p : PinMap) (mode : Mode) (n : Nibble) (dHi dLo : Nat) :
    portCount (sendNibble p mode n dHi dLo) = 3 := rfl

theorem portCount_sendByte (c : Setup) (mode : Mode) (b : Byte) : portCount (sendByte c mode b) = 6 := rfl

/-- The idle word, four nibbles and seven bytes (R162). -/
theorem portCount_expandInit (c : Setup) (o : InitOptions) : portCount (expandInit c o) = 55 := by
  simp [expandInit, forceIdle, bringUp, bringUpPulse, applySettings, addrReset, clearSeq, sendSettled, reach,
    portCount_sendNibble, portCount_sendByte]

/-! ### Stopping and going on (R26, R260) -/

/-- Whether a list is performed from its start or from the middle of its first micro-operation, the outcome is the same. -/
theorem State.runList_startNext (us : Nat) (ops : List MicroOp) (s : State) :
    State.runList State.finish ops (s.startNext us ops.head?) = State.runList State.finish ops s := by
  cases ops with
  | nil => rfl
  | cons m ms => simp only [List.head?_cons, State.runList, State.perform_startNext]

theorem State.runList_pauseAt {p : Pause} (hp : p.reset = false) (ops : List MicroOp) (s : State) :
    State.runList State.finish ops (s.pauseAt p ops.head?) = State.runList State.finish ops s := by
  have hfree (t : State) : { t with resetReq := t.resetReq || false } = t := by rw [Bool.or_false]
  unfold State.pauseAt
  rw [hp]
  cases p.started with
  | none => simp only [hfree]
  | some us => simp only [hfree, State.runList_startNext]

/-- Where the answers before the pause are all `ok`, the block stops at the pause. -/
theorem State.resume_pause {s : State} {p : Pause} {later : List Pause} (hp : s.pauses = p :: later)
    (hle : p.done ≤ s.rest.length)
    (h : s.answers.take (portCount (s.rest.take p.done)) = List.replicate (portCount (s.rest.take p.done)) .ok) :
    s.resume = (State.okRun (s.rest.take p.done) s.takePause).pauseAt p (s.rest.drop p.done).head? := by
  change State.runOps s.rest s = _
  rw [List.head?_drop, State.runOps, hp]
  simp only [hle, if_true]
  exact State.runList_ok (by simpa using h)

/-- A pause adds to the port trace what it starts. -/
theorem State.pauseAt_trace {s : State} (p : Pause) (next : Option MicroOp) (h : s.begun = false) :
    (s.pauseAt p next).trace = s.trace ++ traceOf s.cfg.outReg (if p.started = none then [] else next.toList) := by
  unfold State.pauseAt
  cases p.started with
  | none => simp [traceOf]
  | some us => simpa using State.startNext_trace us next h

/-- What is left of a wait that a pause stops (R32, log 8). -/
theorem State.pauseAt_timer {s : State} {p : Pause} {d us : Nat} (hp : p.started = some us) (h : s.begun = false) :
    (s.pauseAt p (some (.dly d))).timer =
        Timing.waited s.cfg.timing d - min us (Timing.waited s.cfg.timing d) ∧
      (s.pauseAt p (some (.dly d))).timerOn = true := by
  obtain ⟨-, ht⟩ : s.inFlight = false ∧ s.timerOn = false := by simpa [State.begun] using h
  simp [State.pauseAt, hp, State.startNext, State.startWait_timer s d ht]

/-- The block right before a pause at `n`, where all answers so far were `ok`. -/
def State.performed (i : Instr) (n : Nat) (s : State) : State :=
  State.okRun ((expand s.cfg i).take n) (s.start i).takePause

theorem State.performed_kept (i : Instr) {n : Nat} {s : State} (hn : n ≤ (expand s.cfg i).length) :
    (s.performed i n).straps = s.straps ∧ (s.performed i n).cfg = s.cfg ∧ (s.performed i n).resetReq = s.resetReq ∧
      (s.performed i n).busy = true ∧ (s.performed i n).seq = expand s.cfg i ∧ (s.performed i n).upc = n ∧
      (s.performed i n).replies = s.replies ∧ (s.performed i n).pauses = s.pauses.tail := by
  obtain ⟨⟨⟨hstraps, hcfg, -, -⟩, hreset⟩, hbusy, -, hseq, hupc, -, hreplies, hpauses⟩ :=
    State.okRun_kept ((expand s.cfg i).take n) (s.start i).takePause
  refine ⟨hstraps, hcfg, hreset, hbusy, hseq, hupc.trans ?_, hreplies, hpauses⟩
  rw [List.length_take, Nat.min_eq_left hn]
  exact Nat.zero_add n

theorem State.performed_trace (i : Instr) (n : Nat) (s : State) :
    (s.performed i n).trace = s.trace ++ traceOf s.cfg.outReg ((expand s.cfg i).take n) ∧
      (s.performed i n).begun = false :=
  State.okRun_trace (s := (s.start i).takePause) rfl

/-- With its only pause behind it, the operation goes on to the outcome of the one that was not stopped. -/
theorem State.resume_after_pause (i : Instr) {s : State} {p : Pause} (hp : s.pauses = [p]) (hreset : p.reset = false)
    (hle : p.done ≤ (expand s.cfg i).length)
    (h : s.answers.take (portCount ((expand s.cfg i).take p.done)) =
      List.replicate (portCount ((expand s.cfg i).take p.done)) .ok) :
    ((s.performed i p.done).pauseAt p ((expand s.cfg i).drop p.done).head?).resume =
      (State.start i { s with pauses := [] }).resume := by
  obtain ⟨-, -, -, -, hseq, hupc, -, hnone⟩ := State.performed_kept i hle
  have hrest : ((s.performed i p.done).pauseAt p ((expand s.cfg i).drop p.done).head?).rest =
      (expand s.cfg i).drop p.done := by simp [State.rest, hseq, hupc]
  have hfresh : (s.start i).takePause = State.start i { s with pauses := [] } := by
    rw [show ([] : List Pause) = s.pauses.tail by rw [hp]; rfl]; rfl
  calc ((s.performed i p.done).pauseAt p ((expand s.cfg i).drop p.done).head?).resume
      = State.runList State.finish ((expand s.cfg i).drop p.done)
          ((s.performed i p.done).pauseAt p ((expand s.cfg i).drop p.done).head?) := by
        rw [State.resume_noPause (by simp [NoPause, hnone, hp]), hrest]
    _ = State.runList State.finish (expand s.cfg i) (s.start i).takePause := by
        rw [State.runList_pauseAt hreset, State.performed,
          ← State.runList_append_ok (s := (s.start i).takePause) h, List.take_append_drop]
    _ = (State.start i { s with pauses := [] }).resume := by
        rw [hfresh, State.resume_noPause (s := State.start i { s with pauses := [] }) rfl]; rfl

/-- The pauses to come have no part in whether an instruction is refused. -/
theorem refusalOf_pauses (i : Instr) (s : State) (l : List Pause) :
    refusalOf i { s with pauses := l } = refusalOf i s := by
  cases i <;> rfl

/-- Reset in the middle of an operation (R260, R262). -/
theorem step_reset {s : State} (hr : s.resetReq = true) (hs : s.straps.Legal) : step s = .next s.applyReset := by
  simp only [step, State.fetch, hr, if_true, if_pos hs]

end Sys2Proof.Machine
end

section
/-! # What the controller takes

The word on the expander as the panel sees it, and one byte and one latch event on the controller's side (R35, R60, R98;
log 15, 18). -/

namespace Sys2Proof.Machine

/-! ### What the panel sees of a word (R35, R94, R95) -/

theorem pinLevel_or (v w : Byte) (k : Fin 8) : pinLevel (v ||| w) k = (pinLevel v k || pinLevel w k) :=
  BitVec.getLsbD_or

theorem pinLevel_drivePin (level : Bool) (j k : Fin 8) : pinLevel (drivePin level j) k = (level && decide (k = j)) := by
  revert level j k; decide

theorem pinLevel_outputWord (p : PinMap) (mode : Mode) (n : Nibble) (k : Fin 8) :
    pinLevel (outputWord p mode n) k =
      (Mode.rsLevel mode && decide (k = p.rs) || n.getLsbD 0 && decide (k = p.db0) || n.getLsbD 1 && decide (k = p.db1) ||
        n.getLsbD 2 && decide (k = p.db2) || n.getLsbD 3 && decide (k = p.db3)) := by
  simp only [outputWord, pinLevel_or, pinLevel_drivePin]

/-- EN is low in every word (R95). -/
theorem outputWord_enLow {p : PinMap} (hp : p.Legal) (mode : Mode) (n : Nibble) :
    pinLevel (outputWord p mode n) p.en = false := by
  simp only [PinMap.Legal, PinMap.indices, List.nodup_cons, List.mem_cons, List.not_mem_nil, or_false, not_or] at hp
  obtain ⟨⟨hrs, -⟩, ⟨h0, h1, h2, h3⟩, -⟩ := hp
  simp [pinLevel_outputWord, Ne.symm hrs, h0, h1, h2, h3]

theorem ofBool_append (n : Nibble) :
    BitVec.ofBool n[3] ++ BitVec.ofBool n[2] ++ BitVec.ofBool n[1] ++ BitVec.ofBool n[0] = n := by
  revert n; decide

/-- The panel reads back the mode and the nibble of a word. -/
theorem panelLatch_outputWord {p : PinMap} (hp : p.Legal) (mode : Mode) (n : Nibble) :
    panelLatch p (outputWord p mode n) = ⟨Mode.rsLevel mode, n⟩ := by
  simp only [PinMap.Legal, PinMap.indices, List.nodup_cons, List.mem_cons, List.not_mem_nil, or_false, not_or] at hp
  obtain ⟨⟨-, r0, r1, r2, r3⟩, -, ⟨d01, d02, d03⟩, ⟨d12, d13⟩, d23, -⟩ := hp
  have hrs : pinLevel (outputWord p mode n) p.rs = Mode.rsLevel mode := by simp [pinLevel_outputWord, r0, r1, r2, r3]
  have h0 : pinLevel (outputWord p mode n) p.db0 = n[0] := by
    simp [pinLevel_outputWord, Ne.symm r0, d01, d02, d03]
  have h1 : pinLevel (outputWord p mode n) p.db1 = n[1] := by
    simp [pinLevel_outputWord, Ne.symm r1, Ne.symm d01, d12, d13]
  have h2 : pinLevel (outputWord p mode n) p.db2 = n[2] := by
    simp [pinLevel_outputWord, Ne.symm r2, Ne.symm d02, Ne.symm d12, d23]
  have h3 : pinLevel (outputWord p mode n) p.db3 = n[3] := by
    simp [pinLevel_outputWord, Ne.symm r3, Ne.symm d03, Ne.symm d13, Ne.symm d23]
  rw [panelLatch, panelNibble, hrs, h0, h1, h2, h3, ofBool_append]

theorem highNibble_append_lowNibble (b : Byte) : highNibble b ++ lowNibble b = b := by
  revert b; decide

/-! ### One byte on the 4-bit bus (R60, R98) -/

/-- In step: 4-bit bus, the next nibble a high one, EN low, no settle owed (R34, R60). -/
def InStep (c : Setup) (out : Byte) (l : Lcd) : Prop :=
  pinLevel out c.pinmap.en = false ∧ l.regs.bus = .four ∧ l.regs.half = none ∧ l.owed = 0

theorem framed_iff (s : State) : Framed s ↔ s.cfg.pinmap.Legal ∧ InStep s.cfg s.out s.lcd := Iff.rfl

/-- The byte is none that the controller takes as a function set to the 8-bit bus (R271). -/
def KeepsBus (mode : Mode) (b : Byte) : Prop := mode = .command → isFunctionSet b = true → b.getLsbD 4 = false

theorem functionSet_row {b : Byte} (h : isFunctionSet b = false) : rowFunctionSet.hits b = false := by
  revert b; decide

theorem decodeByte_functionSet {b : Byte} {w n f : Bool} (h : decodeByte b = some (.lcdFunctionSet w n f)) :
    rowFunctionSet.hits b = true := by
  by_contra hno
  simp only [decodeByte, hno, if_false] at h
  split_ifs at h <;> simp at h

theorem readCommand_functionSet {b : Byte} {w n f : Bool} (h : readCommand b = some (.lcdFunctionSet w n f)) :
    isFunctionSet b = true ∧ w = b.getLsbD 4 := by
  unfold readCommand at h
  split at h
  next hb =>
    injection h with h
    injection h with h
    exact ⟨hb, h.symm⟩
  next hb => exact absurd (decodeByte_functionSet h) (by simp [functionSet_row (by simpa using hb)])

/-- A command leaves the next nibble a high one, and no settle but its own. -/
theorem Lcd.obey_half (k t : Nat) (i : Instr) (l : Lcd) :
    (l.obey k t i).regs.half = none ∧ ((l.obey k t i).owed = l.owed ∨ (l.obey k t i).owed = t) := by
  cases i with
  | lcdMoveMode a b => cases a <;> exact ⟨rfl, .inl rfl⟩
  | lcdDisplayClear => exact ⟨rfl, .inr rfl⟩
  | lcdDisplayHome => exact ⟨rfl, .inr rfl⟩
  | _ => exact ⟨rfl, .inl rfl⟩

/-- Only a function set changes the bus. -/
theorem Lcd.obey_bus {k t : Nat} {i : Instr} {l : Lcd} (h : ∀ w n f, i = .lcdFunctionSet w n f → w = false)
    (hl : l.regs.bus = .four) : (l.obey k t i).regs.bus = .four := by
  cases i with
  | lcdMoveMode a b => cases a <;> exact hl
  | lcdFunctionSet w n f =>
    obtain rfl := h w n f rfl
    rfl
  | _ => exact hl

theorem Lcd.obey_owed {k t : Nat} {i : Instr} {l : Lcd} (hclear : i ≠ .lcdDisplayClear) (hhome : i ≠ .lcdDisplayHome) :
    (l.obey k t i).owed = l.owed := by
  cases i with
  | lcdMoveMode a b => cases a <;> rfl
  | lcdDisplayClear => exact absurd rfl hclear
  | lcdDisplayHome => exact absurd rfl hhome
  | _ => rfl

theorem Lcd.store_regs (b : Byte) (l : Lcd) : (l.store b).regs = l.regs ∧ (l.store b).owed = l.owed := by
  unfold Lcd.store; split <;> exact ⟨rfl, rfl⟩

theorem Lcd.takeByte_command {k t : Nat} {b : Byte} {i : Instr} {l : Lcd} (h : readCommand b = some i) :
    l.takeByte k t false b = l.obey k t i := by
  simp only [Lcd.takeByte, Bool.false_eq_true, if_false, h]

theorem Lcd.takeByte_noCommand {k t : Nat} {b : Byte} {l : Lcd} (h : readCommand b = none) :
    l.takeByte k t false b = l.unstated k l.regs.bus := by
  simp only [Lcd.takeByte, Bool.false_eq_true, if_false, h]

theorem Lcd.takeByte_half (k t : Nat) (rs : Bool) (b : Byte) (l : Lcd) :
    (l.takeByte k t rs b).regs.half = none ∧
      ((l.takeByte k t rs b).owed = l.owed ∨ (l.takeByte k t rs b).owed = t) := by
  unfold Lcd.takeByte
  split
  · exact ⟨rfl, .inl (l.store_regs b).2⟩
  · split
    · exact Lcd.obey_half ..
    · exact ⟨rfl, .inl rfl⟩

theorem Lcd.takeByte_bus {k t : Nat} {mode : Mode} {b : Byte} {l : Lcd} (h : KeepsBus mode b)
    (hl : l.regs.bus = .four) : (l.takeByte k t (Mode.rsLevel mode) b).regs.bus = .four := by
  cases mode with
  | data => exact hl
  | command =>
    change (l.takeByte k t false b).regs.bus = .four
    cases hr : readCommand b with
    | none => rw [Lcd.takeByte_noCommand hr]; exact hl
    | some i =>
      rw [Lcd.takeByte_command hr]
      refine Lcd.obey_bus (fun w n f hi => ?_) hl
      obtain ⟨hset, hw⟩ := readCommand_functionSet (hi ▸ hr)
      exact hw.trans (h rfl hset)

/-- A nibble that ends neither a clear nor a home, so that no settle is owed for it. -/
def NoSettle (n : Nibble) : Prop :=
  ∀ m : Nibble, readCommand (m ++ n) ≠ some .lcdDisplayClear ∧ readCommand (m ++ n) ≠ some .lcdDisplayHome

theorem noSettle_zero : NoSettle 0x0 := by unfold NoSettle; decide
theorem noSettle_three : NoSettle 0x3 := by unfold NoSettle; decide

theorem Lcd.takeByte_owed {k t : Nat} {m n : Nibble} {l : Lcd} (h : NoSettle n) :
    (l.takeByte k t false (m ++ n)).owed = l.owed := by
  obtain ⟨hclear, hhome⟩ := h m
  cases hr : readCommand (m ++ n) with
  | none => rw [Lcd.takeByte_noCommand hr]; rfl
  | some i =>
    rw [Lcd.takeByte_command hr]
    exact Lcd.obey_owed (fun hi => hclear (hi ▸ hr)) (fun hi => hhome (hi ▸ hr))

/-- Time does nothing to a controller that owes no settle. -/
theorem Lcd.rest_settled {l : Lcd} (h : l.owed = 0) (d : Nat) : l.rest d = l := by
  rw [Lcd.rest, h, Nat.zero_sub, ← h]

/-! ### One latch event (R35, R60, G6) -/

theorem Lcd.latch_wide {k t : Nat} {e : Latch} {l : Lcd} (ho : l.owed = 0) (hb : l.regs.bus = .eight) :
    l.latch k t e = l.takeWide k e := by simp [Lcd.latch, ho, hb]

theorem Lcd.latch_half {k t : Nat} {e : Latch} {l : Lcd} (ho : l.owed = 0) (hb : l.regs.bus = .four) :
    l.latch k t e = l.takeHalf k t e := by simp [Lcd.latch, ho, hb]

/-- `e` waits for its low nibble (R60). -/
def Lcd.holdHalf (e : Latch) (l : Lcd) : Lcd := { l with regs := { l.regs with half := some e } }

theorem Lcd.takeHalf_first {k t : Nat} {e : Latch} {l : Lcd} (h : l.regs.half = none) :
    l.takeHalf k t e = l.holdHalf e := by simp [Lcd.takeHalf, h, Lcd.holdHalf]

theorem Lcd.takeHalf_second {k t : Nat} {e : Latch} {m : Nibble} {l : Lcd} (h : l.regs.half = some ⟨e.rs, m⟩) :
    l.takeHalf k t e = l.takeByte k t e.rs (m ++ e.nib) := by simp [Lcd.takeHalf, h]

theorem Lcd.takeWide_owed (k : Nat) (e : Latch) (l : Lcd) :
    (l.takeWide k e).owed = l.owed ∧ (l.takeWide k e).regs.half = none := by
  simp only [Lcd.takeWide]
  split_ifs <;> exact ⟨rfl, rfl⟩

theorem Lcd.takeHalf_owed {k t : Nat} {n : Nibble} {l : Lcd} (h : NoSettle n) :
    (l.takeHalf k t ⟨false, n⟩).owed = l.owed := by
  unfold Lcd.takeHalf
  split
  · rfl
  · split
    · exact Lcd.takeByte_owed h
    · rfl

theorem Lcd.latch_owed {k t : Nat} {n : Nibble} {l : Lcd} (h : NoSettle n) :
    (l.latch k t ⟨false, n⟩).owed = l.owed := by
  unfold Lcd.latch
  split
  · rfl
  · split
    · exact (Lcd.takeWide_owed ..).1
    · exact Lcd.takeHalf_owed h

end Sys2Proof.Machine
end

section
/-! # The controller stays in step

A byte keeps the controller in step, INIT's four lone nibbles bring any controller there, and what has been performed of
a list is reckoned with in what is left of it (R34, R60, R128; log 19). -/

namespace Sys2Proof.Machine

/-! ### Lists that keep the controller in step -/

theorem EndsInStep_port (c : Setup) (out : Byte) (l : Lcd) (p : Primitive) (ms : List MicroOp) :
    EndsInStep c out l (.port p :: ms) ↔
      if pinLevel out c.pinmap.en && !pinLevel (p.result out) c.pinmap.en then
        ∀ k, EndsInStep c (p.result out) (l.latch k c.timing.tClear (panelLatch c.pinmap (p.result out))) ms
      else EndsInStep c (p.result out) l ms := Iff.rfl

/-- From a controller in step the list ends in step. -/
def KeepsStep (c : Setup) (ops : List MicroOp) : Prop := ∀ out l, InStep c out l → EndsInStep c out l ops

theorem EndsInStep.append {c : Setup} {out : Byte} {l : Lcd} {as bs : List MicroOp} (ha : EndsInStep c out l as)
    (hb : KeepsStep c bs) : EndsInStep c out l (as ++ bs) := by
  induction as generalizing out l with
  | nil => exact hb out l ha
  | cons m ms ih =>
    cases m with
    | port p =>
      rw [EndsInStep_port] at ha
      rw [List.cons_append, EndsInStep_port]
      split at ha
      next hfalls => rw [if_pos hfalls]; exact fun k => ih (ha k)
      next hquiet => rw [if_neg hquiet]; exact ih ha
    | dly d => exact ih (out := out) ha
    | st w => exact ih (out := out) (l := l) ha

theorem KeepsStep.append {c : Setup} {as bs : List MicroOp} (ha : KeepsStep c as) (hb : KeepsStep c bs) :
    KeepsStep c (as ++ bs) := fun out l h => (ha out l h).append hb

theorem KeepsStep.st (c : Setup) (w : StateWrite) : KeepsStep c [.st w] := fun _ _ h => h

theorem KeepsStep.dly (c : Setup) (d : Nat) : KeepsStep c [.dly d] := by
  rintro out l ⟨hen, hbus, hhalf, howed⟩
  exact ⟨hen, hbus, hhalf, by simp [Lcd.rest, howed]⟩

/-- One nibble, from EN low: the panel latches it once, at the end of the pulse (R121, R122, R128). -/
theorem EndsInStep.sendNibble {c : Setup} {out : Byte} {l : Lcd} {mode : Mode} {n : Nibble} {dHi dLo : Nat}
    {ms : List MicroOp} (hp : c.pinmap.Legal) (hen : pinLevel out c.pinmap.en = false)
    (h : ∀ k, EndsInStep c (outputWord c.pinmap mode n)
      (Lcd.rest (Timing.waited c.timing dLo)
        ((l.rest (Timing.waited c.timing dHi)).latch k c.timing.tClear ⟨Mode.rsLevel mode, n⟩)) ms) :
    EndsInStep c out l (Machine.sendNibble c.pinmap mode n dHi dLo ++ ms) := by
  have hlow := outputWord_enLow hp mode n
  have hset := pinLevel_set (outputWord c.pinmap mode n) c.pinmap.en
  have hclear := set_clear_bit _ _ hlow
  simp only [Machine.sendNibble, pulseEN, List.cons_append, List.nil_append, EndsInStep_port, EndsInStep_dly,
    Primitive.result, hen, hlow, hset, hclear, Bool.false_and, Bool.not_false, Bool.and_self, Bool.false_eq_true,
    if_true, if_false, panelLatch_outputWord hp]
  exact h

/-- A byte, sent with a hold that covers the settle, keeps the controller in step (R124, R278). -/
theorem keepsStep_sendByte {c : Setup} {mode : Mode} {b : Byte} (hp : c.pinmap.Legal)
    (hold : c.timing.tClear ≤ c.timing.tEn) (hb : KeepsBus mode b) : KeepsStep c (sendByte c mode b) := by
  rintro out l ⟨hen, hbus, hhalf, howed⟩
  have hwait := Timing.le_waited c.timing c.timing.tEn
  rw [sendByte, ← List.append_nil (_ ++ _), List.append_assoc]
  let l' := l.holdHalf ⟨Mode.rsLevel mode, highNibble b⟩
  have howed' : l'.owed = 0 := howed
  refine .sendNibble hp hen fun k => ?_
  rw [Lcd.rest_settled howed, Lcd.latch_half howed hbus, Lcd.takeHalf_first hhalf, Lcd.rest_settled howed']
  refine .sendNibble hp (outputWord_enLow hp ..) fun k => ?_
  rw [Lcd.rest_settled howed', Lcd.latch_half howed' hbus, Lcd.takeHalf_second rfl, highNibble_append_lowNibble]
  obtain ⟨hnone, howes⟩ := l'.takeByte_half k c.timing.tClear (Mode.rsLevel mode) b
  refine ⟨outputWord_enLow hp .., Lcd.takeByte_bus hb hbus, hnone, Nat.sub_eq_zero_of_le ?_⟩
  rcases howes with h | h <;> rw [h]
  · exact howed'.trans_le (Nat.zero_le _)
  · exact hold.trans hwait

/-! ### The bytes that are no function sets (R98 to R101) -/

theorem entryByte_notFunctionSet (a b : Bool) : isFunctionSet (entryByte a b) = false := by revert a b; decide

theorem displayByte_notFunctionSet (d c b : Bool) : isFunctionSet (displayByte d c b) = false := by revert d c b; decide

theorem moveByte_notFunctionSet (v r : Bool) : isFunctionSet (moveByte v r) = false := by revert v r; decide

theorem cgramByte_notFunctionSet (a : BitVec 6) : isFunctionSet (cgramByte a) = false := by revert a; decide

theorem ddramByte_notFunctionSet (n : Nat) : isFunctionSet (ddramByte n) = false := by
  have (a : Byte) : isFunctionSet (Config.lcdc.ddramBase ||| a) = false := by revert a; decide
  exact this _

theorem functionByte_fourBit (n f : Bool) : (functionByte false n f).getLsbD 4 = false := by revert n f; decide

/-! ### The lists of the instructions -/

section

variable {c : Setup} (hp : c.pinmap.Legal) (hold : c.timing.tClear ≤ c.timing.tEn)
include hp hold

theorem keepsStep_sendData (bytes : List Byte) : KeepsStep c (sendData c bytes) := by
  induction bytes with
  | nil => exact fun _ _ h => h
  | cons b bs ih => exact (keepsStep_sendByte hp hold (b := b) (mode := .data) (by simp [KeepsBus])).append ih

/-- A command byte that is no function set (R271). -/
theorem keepsStep_command {b : Byte} (h : isFunctionSet b = false) : KeepsStep c (sendByte c .command b) :=
  keepsStep_sendByte hp hold fun _ hb => by simp [h] at hb

theorem keepsStep_sendSettled {b : Byte} (h : isFunctionSet b = false) : KeepsStep c (sendSettled c b) :=
  (keepsStep_command hp hold h).append (.dly c c.timing.tClear)

theorem keepsStep_clearSeq : KeepsStep c (clearSeq c) := keepsStep_sendSettled hp hold (by decide)

theorem keepsStep_sendThenClear {b : Byte} (h : isFunctionSet b = false) : KeepsStep c (sendThenClear c b) :=
  (keepsStep_command hp hold h).append (keepsStep_clearSeq hp hold)

theorem keepsStep_addrReset : KeepsStep c (addrReset c) := keepsStep_command hp hold (ddramByte_notFunctionSet _)

/-- Every list but INIT's and those that lose the panel. -/
theorem keepsStep_expand {i : Instr} (hi : isInit i = false) (hl : losesPanel i = false) : KeepsStep c (expand c i) := by
  cases i with
  | init o => simp [isInit] at hi
  | sendbyte b mode =>
    refine keepsStep_sendByte hp hold fun hmode hset => ?_
    simp [losesPanel, hmode, hset] at hl
  | clear => exact keepsStep_clearSeq hp hold
  | home => exact keepsStep_sendSettled hp hold (by decide)
  | goto row column => exact keepsStep_command hp hold (ddramByte_notFunctionSet _)
  | setentry a b => exact keepsStep_sendThenClear hp hold (entryByte_notFunctionSet a b)
  | setdisplay d cu b => exact keepsStep_sendThenClear hp hold (displayByte_notFunctionSet d cu b)
  | setmove v r => exact keepsStep_sendThenClear hp hold (moveByte_notFunctionSet v r)
  | loadglyphs t =>
    exact ((keepsStep_command hp hold (cgramByte_notFunctionSet 0)).append (keepsStep_sendData hp hold t)).append
      (keepsStep_addrReset hp hold)
  | writestring t => exact keepsStep_sendData hp hold t
  | lcdDisplayClear => exact keepsStep_clearSeq hp hold
  | lcdDisplayHome => exact keepsStep_sendSettled hp hold (by decide)
  | lcdEntryMode a b => exact keepsStep_command hp hold (entryByte_notFunctionSet a b)
  | lcdDisplayMode d cu b => exact keepsStep_command hp hold (displayByte_notFunctionSet d cu b)
  | lcdMoveMode v r => exact keepsStep_command hp hold (moveByte_notFunctionSet v r)
  | lcdCgramAddr a => exact keepsStep_command hp hold (cgramByte_notFunctionSet a)
  | lcdDdramAddr a => exact keepsStep_command hp hold (ddramByte_notFunctionSet _)
  | lcdFunctionSet w n f => simp [losesPanel] at hl
  | nibEightbit => simp [losesPanel] at hl
  | nibFourbit => simp [losesPanel] at hl

/-- The bytes of INIT, the 8-bit bus not asked for (R155, R156, R161). -/
theorem keepsStep_applySettings {o : InitOptions} (h : o.dataWidth = false) : KeepsStep c (applySettings c o) := by
  have hfunction : KeepsBus .command (functionByte o.dataWidth o.lineCount o.font) := fun _ _ => by
    rw [h]; exact functionByte_fourBit ..
  exact (keepsStep_sendByte hp hold hfunction).append (.st _ _)
    |>.append (keepsStep_command hp hold (displayByte_notFunctionSet ..)) |>.append (.st _ _)
    |>.append (keepsStep_command hp hold (entryByte_notFunctionSet ..)) |>.append (.st _ _)
    |>.append (keepsStep_command hp hold (displayByte_notFunctionSet ..))
    |>.append (keepsStep_command hp hold (moveByte_notFunctionSet ..)) |>.append (.st _ _)
    |>.append (keepsStep_addrReset hp hold) |>.append (keepsStep_clearSeq hp hold) |>.append (.st _ _)

end

/-! ### INIT from any controller (R153, R154, G6) -/

theorem panelLatch_zero (p : PinMap) : panelLatch p 0x00 = ⟨false, 0x0⟩ := by
  simp [panelLatch, panelNibble, pinLevel]

/-- The idle word; the wait after it is over when the controller takes the next nibble. -/
theorem EndsInStep.forceIdle {c : Setup} {out : Byte} {l : Lcd} {ms : List MicroOp} (howed : l.owed ≤ c.timing.tPowerOn)
    (h : ∀ l' : Lcd, l'.owed = 0 → EndsInStep c 0x00 l' ms) : EndsInStep c out l (Machine.forceIdle c ++ ms) := by
  have hwait := Timing.le_waited c.timing c.timing.tPowerOn
  have settled {l' : Lcd} (hl : l'.owed = l.owed) :
      EndsInStep c 0x00 (l'.rest (Timing.waited c.timing c.timing.tPowerOn)) ms :=
    h _ (by simp only [Lcd.rest]; omega)
  rw [Machine.forceIdle, List.cons_append, EndsInStep_port]
  split
  · intro k
    rw [Primitive.result, panelLatch_zero]
    exact settled (Lcd.latch_owed noSettle_zero)
  · exact settled rfl

/-- One bring-up pulse, from EN low and nothing owed. -/
theorem EndsInStep.bringUpPulse {c : Setup} {out : Byte} {l : Lcd} {n : Nibble} {wait : Nat} {ms : List MicroOp}
    (hp : c.pinmap.Legal) (hen : pinLevel out c.pinmap.en = false) (howed : l.owed = 0)
    (hlatch : ∀ k, (l.latch k c.timing.tClear ⟨false, n⟩).owed = 0)
    (h : ∀ k out', pinLevel out' c.pinmap.en = false →
      EndsInStep c out' (l.latch k c.timing.tClear ⟨false, n⟩) ms) :
    EndsInStep c out l (Machine.bringUpPulse c n wait ++ ms) := by
  refine .sendNibble hp hen fun k => ?_
  rw [Lcd.rest_settled howed, Lcd.rest_settled (l := l.latch k _ ⟨Mode.rsLevel .command, n⟩) (hlatch k)]
  exact h k _ (outputWord_enLow hp ..)

theorem EndsInStep.reach {c : Setup} {out : Byte} {l : Lcd} {m : InitState} {ms : List MicroOp}
    (h : EndsInStep c out l ms) : EndsInStep c out l ([Machine.reach m] ++ ms) := h

/-- After the first `0x3` at the latest a low nibble is awaited, if at all, for a `0x3`. -/
theorem Lcd.latch_first_three {k t : Nat} {l : Lcd} (h : l.owed = 0) :
    (l.latch k t (pulseLatch 0x3)).regs.half = none ∨
      (l.latch k t (pulseLatch 0x3)).regs.half = some (pulseLatch 0x3) := by
  cases hb : l.regs.bus with
  | eight => rw [Lcd.latch_wide h hb]; exact .inl (Lcd.takeWide_owed ..).2
  | four =>
    rw [Lcd.latch_half h hb]
    unfold Lcd.takeHalf
    split
    · exact .inr rfl
    · split
      · exact .inl (Lcd.takeByte_half ..).1
      · exact .inl rfl

/-- `0x33` on the 4-bit bus is the function set to the 8-bit bus. -/
theorem Lcd.latch_paired_three {k t : Nat} {l : Lcd} (h : l.owed = 0)
    (hl : l.regs.bus = .eight ∨ l.regs.half = some (pulseLatch 0x3)) :
    (l.latch k t (pulseLatch 0x3)).regs.bus = .eight := by
  cases hb : l.regs.bus with
  | eight => rw [Lcd.latch_wide h hb]; rfl
  | four =>
    rw [Lcd.latch_half h hb, Lcd.takeHalf_second (m := 0x3) (hl.resolve_left (by simp [hb]))]
    have hread : readCommand (0x3#4 ++ 0x3#4) = some (.lcdFunctionSet true false false) := by decide
    change (l.takeByte k t false (0x3#4 ++ 0x3#4)).regs.bus = .eight
    rw [Lcd.takeByte_command hread]; rfl

/-- After the second the controller is on the 8-bit bus, or one more `0x3` brings it there. -/
theorem Lcd.latch_second_three {k t : Nat} {l : Lcd} (h : l.owed = 0)
    (hl : l.regs.half = none ∨ l.regs.half = some (pulseLatch 0x3)) :
    (l.latch k t (pulseLatch 0x3)).regs.bus = .eight ∨
      (l.latch k t (pulseLatch 0x3)).regs.half = some (pulseLatch 0x3) := by
  cases hb : l.regs.bus with
  | eight => exact .inl (Lcd.latch_paired_three h (.inl hb))
  | four =>
    rcases hl with hl | hl
    · rw [Lcd.latch_half h hb, Lcd.takeHalf_first hl]; exact .inr rfl
    · exact .inl (Lcd.latch_paired_three h (.inr hl))

/-- `0x2` on the 8-bit bus is the function set to the 4-bit bus. -/
theorem Lcd.latch_two {k t : Nat} {l : Lcd} (h : l.owed = 0) (hb : l.regs.bus = .eight) :
    (l.latch k t (pulseLatch 0x2)).owed = 0 ∧ (l.latch k t (pulseLatch 0x2)).regs.bus = .four ∧
      (l.latch k t (pulseLatch 0x2)).regs.half = none := by
  rw [Lcd.latch_wide h hb]; exact ⟨h, rfl, rfl⟩

/-- Three times `0x3` and once `0x2` bring any controller that is not busy in step. -/
theorem EndsInStep.bringUp {c : Setup} {out : Byte} {l : Lcd} (hp : c.pinmap.Legal)
    (hen : pinLevel out c.pinmap.en = false) (h : l.owed = 0) : EndsInStep c out l (Machine.bringUp c) := by
  have settled {l : Lcd} (h : l.owed = 0) (k : Nat) : (l.latch k c.timing.tClear (pulseLatch 0x3)).owed = 0 :=
    (Lcd.latch_owed noSettle_three).trans h
  simp only [Machine.bringUp, List.append_assoc]
  refine .bringUpPulse hp hen h (settled h) fun k₁ out hen => .reach ?_
  have h₁ := settled h k₁
  have hl₁ := Lcd.latch_first_three (k := k₁) (t := c.timing.tClear) h
  refine .bringUpPulse hp hen h₁ (settled h₁) fun k₂ out hen => .reach ?_
  have h₂ := settled h₁ k₂
  have hl₂ := Lcd.latch_second_three (k := k₂) (t := c.timing.tClear) h₁ hl₁
  refine .bringUpPulse hp hen h₂ (settled h₂) fun k₃ out hen => .reach ?_
  have h₃ := settled h₂ k₃
  have hl₃ := Lcd.latch_paired_three (k := k₃) (t := c.timing.tClear) h₂ hl₂
  rw [← List.append_nil (Machine.bringUpPulse ..)]
  exact .bringUpPulse hp hen h₃ (fun k₄ => (Lcd.latch_two h₃ hl₃).1) fun k₄ out hen =>
    have ⟨howed, hbus, hhalf⟩ := Lcd.latch_two (k := k₄) (t := c.timing.tClear) h₃ hl₃
    ⟨hen, hbus, hhalf, howed⟩

/-- INIT, from a controller that owes no more settle than the power-on wait (R152, R264). -/
theorem EndsInStep.expandInit {c : Setup} {out : Byte} {l : Lcd} {o : InitOptions} (hp : c.pinmap.Legal)
    (hold : c.timing.tClear ≤ c.timing.tEn) (ho : o.dataWidth = false) (howed : l.owed ≤ c.timing.tPowerOn) :
    EndsInStep c out l (Machine.expandInit c o) := by
  have hzero : pinLevel 0x00 c.pinmap.en = false := by simp [pinLevel]
  have hfront : EndsInStep c out l (Machine.forceIdle c ++ Machine.bringUp c) :=
    .forceIdle howed fun _ hl => .bringUp hp hzero hl
  have hback : KeepsStep c (applySettings c o ++ [Machine.reach .ready, .st (.initialized true)]) :=
    (keepsStep_applySettings hp hold ho).append fun _ _ h => h
  have := hfront.append hback
  simpa [Machine.expandInit, Machine.reach] using this

/-! ### The invariant through a step (R34) -/

/-- The list that is left brings the controller in step; of a wait that runs, what is left of it counts. -/
def PanelAhead (s : State) : Prop :=
  if s.timerOn then EndsInStep s.cfg s.out (s.lcd.rest s.timer) s.rest.tail else EndsInStep s.cfg s.out s.lcd s.rest

theorem PanelInv_busy {s : State} (hb : s.busy = true) : PanelInv s ↔ (OwesStep s → PanelAhead s) := by
  unfold PanelInv; rw [hb]; exact Iff.rfl

theorem PanelInv_idle {s : State} (hb : s.busy = false) : PanelInv s ↔ PanelTracked s := by
  unfold PanelInv; rw [hb]

/-- A panel of which nothing is claimed. -/
theorem PanelInv.unknown {s : State} (hb : s.busy = false) (h : s.ctrlSync = .unknown) : PanelInv s :=
  (PanelInv_idle hb).mpr fun hsync => by simp [h] at hsync

theorem OwesStep.congr {s t : State} (h : OwesStep t) (hop : t.op = s.op) (hsync : t.ctrlSync = s.ctrlSync) :
    OwesStep s := by
  unfold OwesStep at *; rw [hop, hsync] at h; exact h

theorem PanelAhead_quiet {s : State} (h : s.timerOn = false) :
    PanelAhead s ↔ EndsInStep s.cfg s.out s.lcd s.rest := by
  unfold PanelAhead; simp [h]

/-- A latch event happens where EN falls, and nowhere else (R35). -/
theorem State.drive_lcd (s : State) (v : Byte) :
    (s.drive v).lcd =
      if pinLevel s.out s.cfg.pinmap.en && !pinLevel v s.cfg.pinmap.en then
        s.lcd.latch s.draws s.cfg.timing.tClear (panelLatch s.cfg.pinmap v)
      else s.lcd := by
  unfold State.drive
  dsimp only
  split <;> rfl

theorem Lcd.rest_rest (a b : Nat) (l : Lcd) : (l.rest a).rest b = l.rest (a + b) := by
  simp only [Lcd.rest, Nat.sub_sub]

/-- What a wait, whether it has begun or not, leaves to be done. -/
theorem PanelAhead.startWait {s : State} {d : Nat} {ms : List MicroOp} (h : PanelAhead s) (hrest : s.rest = .dly d :: ms) :
    EndsInStep s.cfg s.out (s.lcd.rest (s.startWait d).timer) ms := by
  unfold PanelAhead at h
  rw [hrest] at h
  cases ht : s.timerOn with
  | true => simpa [State.startWait, ht] using h
  | false => simpa [State.startWait_timer s d ht, ht] using h

theorem PanelAhead.okStep {s : State} {m : MicroOp} (h : PanelAhead s) (hflight : FlightInv s)
    (hm : s.seq[s.upc]? = some m) : PanelAhead (s.okStep m) := by
  obtain ⟨ms, hrest⟩ := State.rest_eq_cons hm
  obtain ⟨-, hquiet⟩ : (s.okStep m).inFlight = false ∧ (s.okStep m).timerOn = false := by
    simpa [State.begun] using hflight.okStep_begun hm
  rw [PanelAhead_quiet hquiet, State.rest_okStep hrest, State.okStep_cfg]
  cases m with
  | port p =>
    rw [PanelAhead_quiet (hflight.timerOn_false (by simp [hm])), hrest, EndsInStep_port] at h
    simp only [State.okStep, State.callOk, State.advance_out, State.drive_out, State.takeAnswer_out, State.startCall_out,
      State.advance_lcd, State.drive_lcd, State.takeAnswer_cfg, State.startCall_cfg, State.takeAnswer_lcd,
      State.startCall_lcd]
    split at h
    next hfalls => rw [if_pos hfalls]; exact h _
    next hquiet => rw [if_neg hquiet]; exact h
  | dly d => simpa [State.okStep, State.wait] using h.startWait hrest
  | st w =>
    rw [PanelAhead_quiet (hflight.timerOn_false (by simp [hm])), hrest] at h
    simpa [State.okStep] using h

/-- Starting the next micro-operation, and letting part of a wait pass, changes nothing of what is ahead. -/
theorem PanelAhead.startNext {s : State} (us : Nat) (h : PanelAhead s) :
    PanelAhead (s.startNext us s.seq[s.upc]?) := by
  cases hm : s.seq[s.upc]? with
  | none => exact h
  | some m =>
    cases m with
    | port p => simpa [State.startNext, PanelAhead, State.rest] using h
    | dly d =>
      obtain ⟨ms, hrest⟩ := State.rest_eq_cons hm
      have hrest' : ((s.startWait d).passTime us).rest = s.rest := by simp [State.rest]
      have hwait := h.startWait hrest
      have hsplit : min us (s.startWait d).timer + ((s.startWait d).timer - min us (s.startWait d).timer) =
          (s.startWait d).timer := by omega
      simpa [State.startNext, PanelAhead, hrest', hrest, Lcd.rest_rest, hsplit] using hwait
    | st w => exact h

theorem State.finish_busy (s : State) : s.finish.busy = false := by
  obtain ⟨l, c, h⟩ := s.finish_eq
  rw [h]

/-- In mid-operation: what is owed to the panel is ahead (R34). -/
def PanelUnderway (s : State) : Prop := s.cfg.pinmap.Legal ∧ FlightInv s ∧ (OwesStep s → PanelAhead s)

theorem PanelUnderway.okStep {s : State} {m : MicroOp} (h : PanelUnderway s) (hm : s.seq[s.upc]? = some m) :
    PanelUnderway (s.okStep m) := by
  obtain ⟨hp, hflight, hahead⟩ := h
  exact ⟨by simpa using hp, hflight.okStep hm, fun ho => (hahead (ho.congr (by simp) (by simp))).okStep hflight hm⟩

/-- The list has run to its end: what ends in step is in step. -/
theorem PanelUnderway.finish {s : State} (h : PanelUnderway s) (hend : s.seq[s.upc]? = none) :
    PanelTracked s.finish := by
  obtain ⟨hp, hflight, hahead⟩ := h
  have hframed : OwesStep s → Framed s := fun ho => by
    have hin := (PanelAhead_quiet (hflight.timerOn_false (by simp [hend]))).mp (hahead ho)
    have hrest : s.rest = [] := List.head?_eq_none_iff.mp (s.rest_head?.trans hend)
    rw [hrest] at hin
    exact (framed_iff s).mpr ⟨hp, hin⟩
  unfold State.finish
  intro hsync
  cases hop : s.op with
  | none =>
    simp only [hop] at hsync ⊢
    exact hframed (by unfold OwesStep; rw [hop]; exact hsync)
  | some i =>
    have howes (hl : losesPanel i = false) (h : isInit i = true ∨ s.ctrlSync = .inSync) : Framed s :=
      hframed (by unfold OwesStep; rw [hop]; exact ⟨hl, h⟩)
    simp only [hop, State.panelAfter] at hsync ⊢
    cases hl : losesPanel i with
    | true => simp [hl, State.losePanel] at hsync
    | false =>
      cases hi : isInit i with
      | true => exact howes hl (.inl hi)
      | false => exact howes hl (.inr (by simpa [hl, hi] using hsync))

theorem PanelInv.resume {s : State} (hp : s.cfg.pinmap.Legal) (hflight : FlightInv s) (h : PanelInv s)
    (hb : s.busy = true) : PanelInv s.resume := by
  have hs : PanelUnderway s := ⟨hp, hflight, (PanelInv_busy hb).mp h⟩
  refine State.resume_induct (P := PanelUnderway) hs hb hs (fun _ _ _ hm h => h.okStep hm) ?fin ?fault ?waiting ?pause
  case fin => intro t _ hend h; exact (PanelInv_idle t.finish_busy).mpr (h.finish hend)
  case fault => intro p t _ _ _; rw [State.abort_eq]; exact .unknown rfl rfl
  case waiting =>
    rintro p t hb - ⟨-, -, h⟩
    rw [PanelInv_busy (by simpa using hb)]
    intro ho
    simpa [PanelAhead, State.rest] using h (ho.congr (by simp) (by simp))
  case pause =>
    rintro p t hb ⟨-, -, h⟩
    rw [PanelInv_busy (by simpa using hb)]
    intro ho
    have h := h (ho.congr (by simp) (by simp))
    exact State.pauseAt_keeps p (fun _ _ h => h) h fun us => h.startNext us

/-- An operation that is to leave the panel in step has the list for it (R34, R161). -/
theorem PanelInv.start {s : State} {i : Instr} (hp : s.cfg.pinmap.Legal) (hold : HoldCoversSettle s)
    (h : PanelTracked s) (hinit : isInit i = true → s.lcd.owed ≤ s.cfg.timing.tPowerOn) : PanelInv (s.start i) := by
  rw [PanelInv_busy rfl, PanelAhead_quiet rfl]
  rintro ⟨hl, howes⟩
  change EndsInStep s.cfg s.out s.lcd (expand s.cfg i)
  cases hi : isInit i with
  | true =>
    obtain ⟨o, rfl⟩ := isInit_iff.mp hi
    exact .expandInit hp hold hl (hinit hi)
  | false =>
    have hsync : s.ctrlSync = .inSync := howes.resolve_left (by simp [hi])
    obtain ⟨-, hin⟩ := (framed_iff s).mp (h hsync)
    exact keepsStep_expand hp hold hi hl s.out s.lcd hin

end Sys2Proof.Machine
end

section
/-! # The obligations of the block's state (spec/10_state.md) -/

open Sys2Proof Sys2Proof.Machine

/-- Settles O42: an INIT's list writes the flag first and last only; `ReadyInv.resume` follows it through any step. -/
theorem readyInvariantKept : Obligations.ReadyInvariantKept := by
  intro s t hs h
  rcases step_cases_resume h with ⟨-, rfl⟩ | ⟨hb, rfl⟩ | ⟨hb, _, _, _, rfl⟩ | ⟨hb, i, r, others, rest, -, -, rfl⟩
  · exact (ReadyInv_idle rfl).mpr (by simp [FlagMatches, State.applyReset])
  · exact hs.resume hb
  · exact (ReadyInv_idle hb).mpr ((ReadyInv_idle hb).mp hs)
  · exact (ReadyInv.start (s := s.takeRequest r others rest) ((ReadyInv_idle hb).mp hs) i).resume rfl

/-- Settles O46: each micro-operation that completes leaves nothing begun, and each way to stop leaves the one at `upc`. -/
theorem flightInvariantKept : Obligations.FlightInvariantKept := by
  intro s t hs h
  rcases step_cases_resume h with ⟨-, rfl⟩ | ⟨hb, rfl⟩ | ⟨-, _, _, _, rfl⟩ | ⟨-, i, r, others, rest, -, -, rfl⟩
  · exact .idle rfl rfl
  · exact hs.resume hb
  · exact hs
  · exact (FlightInv.start i (s.takeRequest r others rest)).resume rfl

/-- Settles O51: an admitted operation begins with a list that ends in step, and each micro-operation of it is reckoned
with. -/
theorem panelTrackingKept : Obligations.PanelTrackingKept := by
  intro s t hp hold hflight hpanel hinit h
  rcases step_cases_resume h with ⟨-, rfl⟩ | ⟨hb, rfl⟩ | ⟨hb, _, _, _, rfl⟩ |
    ⟨hb, i, r, others, rest, hpending, hdecode, rfl⟩
  · exact .unknown rfl rfl
  · exact hpanel.resume hp hflight hb
  · exact (PanelInv_idle hb).mpr ((PanelInv_idle hb).mp hpanel)
  · have howed : isInit i = true → s.lcd.owed ≤ s.cfg.timing.tPowerOn := fun hi => by
      obtain ⟨o, rfl⟩ := isInit_iff.mp hi
      exact hinit r others o rest hb hpending hdecode
    have hstart : PanelInv ((s.takeRequest r others rest).start i) :=
      .start (s := s.takeRequest r others rest) hp hold ((PanelInv_idle hb).mp hpanel) howed
    exact hstart.resume hp (.start ..) rfl

/-- Settles O15: INIT's list has 55 primitives, and the block it leaves refuses what is guarded. -/
theorem initFaults : Obligations.InitFaults := by
  intro s o k hb hk h
  obtain ⟨hidle, -, hreplies, htrace, hsync, hkept, hflags⟩ :=
    State.resume_fault (s := s.start (.init o)) rfl (.start ..) (.start_init ..)
      (by rw [← portCount_expandInit s.cfg o] at hk; exact hk) h
  obtain ⟨hflag, hstate⟩ := hflags o rfl
  refine ⟨_, exec_admitted hb rfl, htrace, hreplies, hidle, hflag, hstate, hsync, hkept, fun i hi => ?_⟩
  exact exec_refused hidle (refusalOf_notInitialized (by simpa [isGuarded] using hi) hflag)

/-- Settles O34: the lists of the other instructions have no state write. -/
theorem onlyInitChangesFlags : Obligations.OnlyInitChangesFlags :=
  fun _ _ _ hi h => exec_flagsKept hi h

/-- Settles O37: `State.resume_offer` says that the queue plays no part in going on. -/
theorem busyTakesNoFrame : Obligations.BusyTakesNoFrame := by
  intro s hb
  refine ⟨fun i => by rw [exec_eq_operate, State.operate_busy hb], fun hr => ?_⟩
  obtain ⟨-, -, hpending, hissuer⟩ := State.runOps_worldKept s.rest s
  refine ⟨s.resume, step_busy hr hb, hpending, hissuer, fun q => ?_⟩
  exact (step_busy (s := s.offer q) hr hb).trans (congrArg _ (State.resume_offer q s))

/-- Settles O57: one lemma for each answer that ends or stops the rest of an operation. -/
theorem resumedOperation : Obligations.ResumedOperation := by
  intro s hb hr hflight hready
  have hstep := step_busy hr hb
  refine ⟨fun hok => ?_, fun k hk hfault => ?_, fun k hk hwait => ?_⟩
  · exact ⟨_, hstep, State.resume_ok hflight hok⟩
  · obtain ⟨hidle, hin, hreplies, htrace, hsync, hkept, hflags⟩ := State.resume_fault hb hflight hready hk hfault
    refine ⟨_, hstep, hidle, hin, hreplies, htrace, hsync, hkept, hflags, fun hother => ?_⟩
    obtain ⟨o, hop⟩ | ⟨i, hop, hi⟩ := hready.op_cases hb
    · exact absurd hop (hother o)
    · obtain ⟨-, hfree⟩ := (ReadyInv_other hb hop hi).mp hready
      exact State.runOps_flagsKept (hfree.drop s.upc) (by simp [hop, hi])
  · exact ⟨_, hstep, State.resume_waiting hb hflight hk hwait⟩

/-- Settles O58: the block stops after the first part of the list, and the rest is performed from there either way. -/
theorem stoppedAnywhere : Obligations.StoppedAnywhere := by
  intro i s p hb hr hrefusal hpauses hle hanswers
  have hstop : (s.start i).resume = (s.performed i p.done).pauseAt p ((expand s.cfg i).drop p.done).head? :=
    State.resume_pause (s := s.start i) hpauses hle hanswers
  obtain ⟨hstraps, hcfg, hreset, hbusy, hseq, hupc, hreplies, hnone⟩ := State.performed_kept i hle
  obtain ⟨htrace, hbegun⟩ := State.performed_trace i p.done s
  refine ⟨_, exec_admitted hb hrefusal, ?_⟩
  rw [hstop]
  refine ⟨by simpa using hbusy, by simpa using hupc, by simpa using hseq, by simpa using hreplies, ?_,
    fun d us hd hus => ?_, fun hgo => ?_, fun hstopped hlegal => ?_⟩
  · rw [State.pauseAt_trace _ _ hbegun, htrace, hcfg, List.append_assoc, ← traceOf_append, List.head?_drop]
    split <;> simp [List.take_add_one]
  · rw [List.head?_drop, hd]
    simpa [hcfg] using State.pauseAt_timer (d := d) hus hbegun
  · rw [step_busy (by simp [hreset, hr, hgo]) (by simpa using hbusy),
      exec_admitted (s := { s with pauses := [] }) hb ((refusalOf_pauses i s []).trans hrefusal)]
    exact congrArg _ (State.resume_after_pause i hpauses hgo hle hanswers)
  · exact ⟨_, step_reset (by simp [hstopped]) (by simpa [hstraps] using hlegal), rfl, rfl, rfl, rfl,
      (State.pauseAt_replies ..).trans hreplies, rfl, rfl, rfl, rfl, rfl⟩

/-- Settles O59: the codes are the tables of R25 and R96; the statuses are those of `finish`, `abort` and the refusals. -/
theorem codesAndStatuses : Obligations.CodesAndStatuses :=
  ⟨rfl, rfl, rfl, rfl, rfl, rfl, rfl, rfl, rfl, rfl, rfl, rfl, rfl, rfl, rfl, rfl, rfl, fun _ _ h => step_repliesOnce h⟩

/-- Settles O43: at reset the block is idle, not initialized and Unpowered. -/
theorem readyInvariantAtReset : Obligations.ReadyInvariantAtReset :=
  (ReadyInv_idle rfl).mpr (by simp [FlagMatches, State.reset, State.powerOn])

/-- Settles O47: at reset the block is idle with nothing begun. -/
theorem flightInvariantAtReset : Obligations.FlightInvariantAtReset := .idle rfl rfl

/-- Settles O60: `ctrl_sync` is Unknown at reset (R36). -/
theorem panelTrackingAtReset : Obligations.PanelTrackingAtReset := .unknown rfl rfl

end

section
/-! # What the controller's memories hold

That every step keeps them in their canonical form and inside their address spaces (spec/20_memory.md R64, R65; log 5). -/

namespace Sys2Proof.Machine

/-! ### The form of the memories -/

/-- What `MemoryInv` says, of the controller alone. -/
def Lcd.memoriesWf (l : Lcd) : Prop :=
  Memory.wf l.ddram ∧ Memory.wf l.cgram ∧ (∀ c ∈ l.ddram, c.1 < 128) ∧ (∀ c ∈ l.cgram, c.1 < 64)

theorem memoryInv_iff (s : State) : MemoryInv s ↔ s.lcd.memoriesWf := Iff.rfl

theorem Lcd.memoriesWf_of_empty {l : Lcd} (hd : l.ddram = []) (hc : l.cgram = []) : l.memoriesWf := by
  simp [Lcd.memoriesWf, hd, hc]

theorem Lcd.memoriesWf.congr {l l' : Lcd} (h : l.memoriesWf) (hd : l'.ddram = l.ddram) (hc : l'.cgram = l.cgram) :
    l'.memoriesWf := by
  unfold Lcd.memoriesWf; rw [hd, hc]; exact h

theorem Lcd.memoriesWf.dropDdram {l l' : Lcd} (h : l.memoriesWf) (hd : l'.ddram = []) (hc : l'.cgram = l.cgram) :
    l'.memoriesWf := by
  obtain ⟨-, hcgram, -, hc64⟩ := h
  unfold Lcd.memoriesWf; rw [hd, hc]
  exact ⟨Memory.wf_nil, hcgram, by simp, hc64⟩

/-! ### Each thing the controller does keeps it -/

/-- The address counter is inside its memory by its type. -/
theorem Lcd.memoriesWf.store {l : Lcd} (b : Byte) (h : l.memoriesWf) : (l.store b).memoriesWf := by
  obtain ⟨hddram, hcgram, hd128, hc64⟩ := h
  unfold Lcd.store
  split
  next a _ => exact ⟨Memory.write_wf _ b hddram, hcgram, Memory.write_bound b a.isLt hd128, hc64⟩
  next a _ => exact ⟨hddram, Memory.write_wf _ b hcgram, hd128, Memory.write_bound b a.isLt hc64⟩

/-- A command wipes DDRAM, leaves the memories, or leaves nothing known. -/
theorem Lcd.memoriesWf.obey {l : Lcd} (k t : Nat) (i : Instr) (h : l.memoriesWf) : (l.obey k t i).memoriesWf := by
  cases i with
  | lcdDisplayClear => exact h.dropDdram rfl rfl
  | lcdMoveMode a b => cases a <;> exact h.congr rfl rfl
  | lcdDisplayHome | lcdEntryMode _ _ | lcdDisplayMode _ _ _ | lcdFunctionSet _ _ _ | lcdCgramAddr _
  | lcdDdramAddr _ => exact h.congr rfl rfl
  | _ => exact Lcd.memoriesWf_of_empty rfl rfl

theorem Lcd.memoriesWf.takeByte {l : Lcd} (k t : Nat) (rs : Bool) (b : Byte) (h : l.memoriesWf) :
    (l.takeByte k t rs b).memoriesWf := by
  unfold Lcd.takeByte
  split
  · exact (h.store b).congr rfl rfl
  · split
    · exact h.obey k t _
    · exact Lcd.memoriesWf_of_empty rfl rfl

theorem Lcd.memoriesWf.latch {l : Lcd} (k t : Nat) (e : Latch) (h : l.memoriesWf) : (l.latch k t e).memoriesWf := by
  have wide : (l.takeWide k e).memoriesWf := by
    simp only [Lcd.takeWide]
    split_ifs
    · exact Lcd.memoriesWf_of_empty rfl rfl
    · exact h.congr rfl rfl
    · exact h.congr rfl rfl
    · exact Lcd.memoriesWf_of_empty rfl rfl
  have half : (l.takeHalf k t e).memoriesWf := by
    unfold Lcd.takeHalf
    split
    · exact h.congr rfl rfl
    · split
      · exact h.takeByte k t _ _
      · exact Lcd.memoriesWf_of_empty rfl rfl
  unfold Lcd.latch
  split
  · exact Lcd.memoriesWf_of_empty rfl rfl
  · split
    · exact wide
    · exact half

theorem Lcd.memoriesWf.rest {l : Lcd} (d : Nat) (h : l.memoriesWf) : (l.rest d).memoriesWf := h.congr rfl rfl

/-! ### The invariant through a step -/

theorem MemoryInv.okStep {s : State} (m : MicroOp) (h : MemoryInv s) : MemoryInv (s.okStep m) := by
  rw [memoryInv_iff] at *
  cases m with
  | port p =>
    have hlcd : (s.okStep (.port p)).lcd = ((s.startCall p).takeAnswer.callOk p).lcd := rfl
    rw [hlcd, State.callOk, State.drive_lcd]
    split
    · exact Lcd.memoriesWf.latch _ _ _ (by simpa using h)
    · simpa using h
  | dly d => simpa [State.okStep, State.wait] using h.rest _
  | st w => simpa [State.okStep] using h

theorem MemoryInv.startNext {s : State} (us : Nat) (m : Option MicroOp) (h : MemoryInv s) :
    MemoryInv (s.startNext us m) := by
  rw [memoryInv_iff] at *
  rcases m with _ | (p | d | w)
  · exact h
  · simpa [State.startNext] using h
  · simpa [State.startNext] using h.rest _
  · exact h

/-- The end of an operation leaves the memories, or nothing known of CGRAM or of both. -/
theorem MemoryInv.finish {s : State} (h : MemoryInv s) : MemoryInv s.finish := by
  unfold State.finish
  split
  next i _ =>
    unfold State.panelAfter
    split_ifs
    · exact Lcd.memoriesWf_of_empty rfl rfl
    · obtain ⟨hddram, -, hd128, -⟩ := h
      exact ⟨hddram, Memory.wf_nil, hd128, by simp [State.panelReady]⟩
    · exact h
  next => exact h

theorem MemoryInv.abort (s : State) : MemoryInv s.abort := by
  rw [State.abort_eq]; exact Lcd.memoriesWf_of_empty rfl rfl

theorem MemoryInv.runOps {s : State} (ops : List MicroOp) (h : MemoryInv s) : MemoryInv (State.runOps ops s) := by
  refine State.runOps_induct (P := MemoryInv) h h (fun m _ _ h => h.okStep m) (fun _ h => h.finish)
    (fun _ _ _ _ => .abort _) ?waiting ?pause
  case waiting => intro p _ t h; simpa [memoryInv_iff] using h
  case pause => intro p t h; exact State.pauseAt_keeps p (fun _ _ h => h) h fun us => h.startNext us _

end Sys2Proof.Machine

open Sys2Proof Sys2Proof.Machine

/-- Settles O44: reset and the queue leave the controller alone, and `MemoryInv.runOps` follows it through an operation. -/
theorem memoryInvariantKept : Obligations.MemoryInvariantKept := by
  intro s t hs h
  rcases step_cases_resume h with ⟨-, rfl⟩ | ⟨-, rfl⟩ | ⟨-, _, _, _, rfl⟩ | ⟨-, i, r, others, rest, -, -, rfl⟩
  · exact hs
  · exact hs.runOps _
  · exact hs
  · exact MemoryInv.runOps (s := (s.takeRequest r others rest).start i) _ hs

/-- Settles O45: no cell is known at reset. -/
theorem memoryInvariantAtReset : Obligations.MemoryInvariantAtReset := Lcd.memoriesWf_of_empty rfl rfl

/-- Settles O9: `callOk` leaves the primitive's result in OUT. -/
theorem primitiveEffects : Obligations.PrimitiveEffects := fun s v m =>
  ⟨s.callOk_out (.wb v), s.callOk_out (.sb m), s.callOk_out (.cb m)⟩

end

section
/-! # What an operation puts on the port, and to whom its status goes

Settles O10 (spec/20_memory.md R51, R53, R54, R61, R95) and O38 (R69, R226). -/

namespace Sys2Proof.Machine

/-! ### Lists that keep to OUT_REG and EN -/

/-- Each entry that the list makes in the port trace is legal. -/
def PortsLegal (c : Setup) (ops : List MicroOp) : Prop := ∀ e ∈ traceOf c.outReg ops, PortEventLegal c e

theorem PortsLegal.append {c : Setup} {as bs : List MicroOp} (ha : PortsLegal c as) (hb : PortsLegal c bs) :
    PortsLegal c (as ++ bs) := by
  intro e he
  rw [traceOf_append, List.mem_append] at he
  exact he.elim (ha e) (hb e)

theorem PortsLegal.st {c : Setup} {w : StateWrite} : PortsLegal c [.st w] := by simp [PortsLegal, traceOf]

theorem PortsLegal.dly {c : Setup} {d : Nat} : PortsLegal c [.dly d] := by simp [PortsLegal, traceOf, PortEventLegal]

/-- INIT's idle word has EN low (R95, R153). -/
theorem PortsLegal.forceIdle {c : Setup} : PortsLegal c (forceIdle c) := by
  simp [PortsLegal, Machine.forceIdle, reach, traceOf, PortEventLegal, pinLevel]

section

variable {c : Setup} (hp : c.pinmap.Legal)
include hp

theorem PortsLegal.sendNibble {mode : Mode} {n : Nibble} {dHi dLo : Nat} :
    PortsLegal c (sendNibble c.pinmap mode n dHi dLo) := by
  simp [PortsLegal, Machine.sendNibble, pulseEN, traceOf, PortEventLegal, outputWord_enLow hp]

theorem PortsLegal.sendByte {mode : Mode} {b : Byte} : PortsLegal c (sendByte c mode b) :=
  (sendNibble hp).append (sendNibble hp)

theorem PortsLegal.sendData {bytes : List Byte} : PortsLegal c (sendData c bytes) := by
  induction bytes with
  | nil => simp [PortsLegal, Machine.sendData, traceOf]
  | cons b bs ih => exact (sendByte hp).append ih

theorem PortsLegal.sendSettled {b : Byte} : PortsLegal c (sendSettled c b) := (sendByte hp).append .dly

theorem PortsLegal.sendThenClear {b : Byte} : PortsLegal c (sendThenClear c b) :=
  (sendByte hp).append (sendSettled hp)

theorem PortsLegal.bringUp : PortsLegal c (bringUp c) :=
  (sendNibble hp).append .st
    |>.append (sendNibble hp) |>.append .st
    |>.append (sendNibble hp) |>.append .st
    |>.append (sendNibble hp)

theorem PortsLegal.applySettings {o : InitOptions} : PortsLegal c (applySettings c o) :=
  (sendByte hp).append .st
    |>.append (sendByte hp) |>.append .st
    |>.append (sendByte hp) |>.append .st
    |>.append (sendByte hp) |>.append (sendByte hp) |>.append .st
    |>.append (sendByte hp) |>.append (sendSettled hp) |>.append .st

/-- Every list is made of nibbles, waits and state writes, and INIT's of the idle word besides. -/
theorem PortsLegal.expand (i : Instr) : PortsLegal c (expand c i) := by
  cases i with
  | init o =>
    have writes {v w : StateWrite} : PortsLegal c [.st v, .st w] := PortsLegal.st.append .st
    exact writes.append .forceIdle |>.append (bringUp hp) |>.append (applySettings hp) |>.append writes
  | clear | home | lcdDisplayClear | lcdDisplayHome => exact sendSettled hp
  | setentry _ _ | setdisplay _ _ _ | setmove _ _ => exact sendThenClear hp
  | loadglyphs t => exact ((sendByte hp).append (sendData hp)).append (sendByte hp)
  | writestring t => exact sendData hp
  | nibEightbit | nibFourbit => exact sendNibble hp
  | _ => exact sendByte hp

end

/-! ### The host a status goes to (R226) -/

/-- `t` has the statuses of `s` and at most one more, which goes to the owner of the running request. -/
def RepliesToIssuer (s t : State) : Prop := t.replies = s.replies ∨ ∃ st, t.replies = s.replies ++ [⟨t.issuer, st⟩]

theorem State.runOps_repliesToIssuer (ops : List MicroOp) (s : State) : RepliesToIssuer s (State.runOps ops s) := by
  refine State.runOps_induct (P := fun t => t.replies = s.replies) (Q := RepliesToIssuer s) rfl rfl
    ?ok ?fin ?fault ?waiting ?pause
  case ok => intro m _ t h; simpa using h
  case fin =>
    intro t h
    obtain ⟨l, c, ht⟩ := t.finish_eq
    exact .inr ⟨.ok, by simp [ht, h]⟩
  case fault => intro p _ t h; exact .inr ⟨.busFault, by simp [State.abort_eq, h]⟩
  case waiting => intro p _ t h; exact .inl (by simpa using h)
  case pause => intro p t h; exact .inl (by simpa using h)

theorem exec_repliesToIssuer {i : Instr} {s t : State} (h : exec i s = .next t) : RepliesToIssuer s t := by
  rcases exec_cases h with ⟨-, rfl⟩ | ⟨-, st, -, rfl⟩ | ⟨-, -, rfl⟩
  · exact .inl rfl
  · exact .inr ⟨st, rfl⟩
  · exact State.runOps_repliesToIssuer (expand s.cfg i) ((s.begin i).load (expand s.cfg i))

end Sys2Proof.Machine

open Sys2Proof Sys2Proof.Machine

/-- Settles O10: what is added is a first part of the instruction's own list, and every list is legal. -/
theorem portUseLegal : Obligations.PortUseLegal := by
  intro i s t hp hb h
  obtain ⟨events, htrace, hprefix, -, -⟩ := exec_ranPart hb h
  exact ⟨events, htrace, fun e he => PortsLegal.expand hp i e (hprefix.subset he)⟩

/-- Settles O38: only a frame that is taken changes the queue; an operation leaves it and answers its own host. -/
theorem requestsInOrder : Obligations.RequestsInOrder := by
  intro s t h
  rcases step_cases h with ⟨-, -, rfl⟩ | ⟨-, -, rfl⟩ | ⟨-, -, rfl⟩ |
    ⟨hr, hb, r, others, why, rest, hpending, hdecode, rfl⟩ | ⟨hr, hb, r, others, i, rest, hpending, hdecode, hexec⟩
  · exact ⟨.inl ⟨rfl, rfl⟩, .inl rfl⟩
  · obtain ⟨-, -, hq, hissuer⟩ := State.runOps_worldKept s.rest s
    exact ⟨.inl ⟨hq, hissuer⟩, State.runOps_repliesToIssuer s.rest s⟩
  · exact ⟨.inl ⟨rfl, rfl⟩, .inl rfl⟩
  · exact ⟨.inr ⟨r, others, rest, hb, hr, hpending, .inr ⟨why, hdecode⟩, rfl, rfl⟩, .inr ⟨.illegalCommand, rfl⟩⟩
  · obtain ⟨-, -, hq, hissuer⟩ := exec_worldKept hexec
    exact ⟨.inr ⟨r, others, rest, hb, hr, hpending, .inl ⟨i, hdecode⟩, hissuer, hq⟩,
      exec_repliesToIssuer (s := s.takeRequest r others rest) hexec⟩

end

section
/-! # A port that is silent for a while

Settles O33 (spec/20_memory.md R55; 93 U5, log 2): what a silence leaves different is the index of the free values, so the
controller's open values and OUT after a fault, and nothing else. -/

namespace Sys2Proof.Machine

/-! ### States that differ in the free values to come -/

/-- The same but for the controller, the index of the free values, and the answers to come. -/
def BlockAgrees (s t : State) : Prop := ∃ l d a, t = { s with lcd := l, draws := d, answers := a }

/-- The same but for the controller, the index of the free values, and OUT. -/
def EndsAlike (s t : State) : Prop := ∃ l d o, t = { s with lcd := l, draws := d, out := o }

variable {s t : State}

theorem BlockAgrees.startCall (p : Primitive) (h : BlockAgrees s t) : BlockAgrees (s.startCall p) (t.startCall p) := by
  obtain ⟨l, d, a, rfl⟩ := h
  exact ⟨l, d, a, by cases hf : s.inFlight <;> simp [State.startCall, State.record, hf]⟩

theorem BlockAgrees.takeAnswer (h : BlockAgrees s t) : BlockAgrees s.takeAnswer t.takeAnswer := by
  obtain ⟨l, d, a, rfl⟩ := h
  exact ⟨l, d + 1, a.tail, rfl⟩

/-- Whether EN falls is in OUT and the configuration alone; what the controller latches does not depend on it (R35). -/
theorem BlockAgrees.callOk (p : Primitive) (h : BlockAgrees s t) : BlockAgrees (s.callOk p) (t.callOk p) := by
  obtain ⟨l, d, a, rfl⟩ := h
  unfold State.callOk State.drive
  dsimp only
  split
  · exact ⟨_, _, _, rfl⟩
  · exact ⟨_, _, _, rfl⟩

theorem BlockAgrees.wait (n : Nat) (h : BlockAgrees s t) : BlockAgrees (s.wait n) (t.wait n) := by
  obtain ⟨l, d, a, rfl⟩ := h
  unfold State.wait State.startWait
  dsimp only
  split
  · exact ⟨_, _, _, rfl⟩
  · exact ⟨_, _, _, rfl⟩

theorem BlockAgrees.okStep (m : MicroOp) (h : BlockAgrees s t) : BlockAgrees (s.okStep m) (t.okStep m) := by
  have advance {u v : State} (h : BlockAgrees u v) : BlockAgrees u.advance v.advance := by
    obtain ⟨l, d, a, rfl⟩ := h
    exact ⟨l, d, a, rfl⟩
  cases m with
  | port p => exact advance ((h.startCall p).takeAnswer.callOk p)
  | dly d => exact advance (h.wait d)
  | st w =>
    obtain ⟨l, d, a, rfl⟩ := h
    cases w <;> exact ⟨l, d, a, rfl⟩

theorem BlockAgrees.okRun (ops : List MicroOp) (h : BlockAgrees s t) :
    BlockAgrees (State.okRun ops s) (State.okRun ops t) := by
  induction ops generalizing s t with
  | nil => exact h
  | cons m ms ih => exact ih (h.okStep m)

/-! ### The same answers have the same outcome -/

theorem BlockAgrees.endsAlike (h : BlockAgrees s t) (ha : t.answers = s.answers) :
    EndsAlike s t ∧ t.out = s.out := by
  obtain ⟨l, d, a, rfl⟩ := h
  obtain rfl : a = s.answers := ha
  exact ⟨⟨l, d, s.out, rfl⟩, rfl⟩

theorem BlockAgrees.finish (h : BlockAgrees s t) : BlockAgrees s.finish t.finish := by
  obtain ⟨l, d, a, rfl⟩ := h
  unfold State.finish State.panelAfter
  dsimp only
  split
  · split_ifs <;> exact ⟨_, _, _, rfl⟩
  · exact ⟨_, _, _, rfl⟩

/-- A fault ends the operation in one way, whatever OUT is then (R56, R158). -/
theorem BlockAgrees.fault (h : BlockAgrees s t) (ha : t.answers = s.answers) :
    EndsAlike s.callFault.abort t.callFault.abort := by
  obtain ⟨l, d, a, rfl⟩ := h
  obtain rfl : a = s.answers := ha
  exact ⟨_, _, _, by simp only [State.abort_eq]; rfl⟩

/-- Where all the answers are listed, none of the free ones is drawn: the list comes to the same end. -/
theorem BlockAgrees.runList {ops : List MicroOp} (h : BlockAgrees s t) (ha : t.answers = s.answers)
    (hlen : portCount ops ≤ s.answers.length) :
    EndsAlike (State.runList State.finish ops s) (State.runList State.finish ops t) ∧
      (.fault ∉ s.answers.take (portCount ops) →
        (State.runList State.finish ops t).out = (State.runList State.finish ops s).out) := by
  induction ops generalizing s t with
  | nil =>
    have answers_finish (u : State) : u.finish.answers = u.answers := by
      obtain ⟨l, c, hu⟩ := u.finish_eq
      rw [hu]
    obtain ⟨hends, hout⟩ := h.finish.endsAlike (by simp only [answers_finish, ha])
    exact ⟨hends, fun _ => hout⟩
  | cons m ms ih =>
    have answers_okStep (u : State) : (u.okStep m).answers = u.answers.drop (portCount [m]) :=
      (State.okRun_answers [m] u).1
    have on (hlen : portCount ms ≤ (s.okStep m).answers.length) :=
      ih (h.okStep m) (by simp only [answers_okStep, ha]) hlen
    cases m with
    | dly d => simpa [answers_okStep] using on (by simpa [answers_okStep] using hlen)
    | st w => simpa [answers_okStep] using on (by simpa [answers_okStep] using hlen)
    | port p =>
      obtain ⟨a, as, has⟩ : ∃ a as, s.answers = a :: as :=
        List.exists_cons_of_length_pos (by rw [portCount_port] at hlen; omega)
      have hs : s.nextAnswer = a := by simp [State.nextAnswer, has]
      have ht : t.nextAnswer = a := by simp [State.nextAnswer, ha, has]
      have htaken : (t.startCall p).takeAnswer.answers = (s.startCall p).takeAnswer.answers := by simp [ha]
      cases a with
      | ok =>
        rw [State.runList_port_ok _ hs, State.runList_port_ok _ ht]
        simpa [answers_okStep, has] using on (by simpa [answers_okStep, has] using hlen)
      | fault =>
        rw [State.runList_port_fault _ hs, State.runList_port_fault _ ht]
        exact ⟨(h.startCall p).takeAnswer.fault htaken, fun hno => absurd (by simp [has]) hno⟩
      | waiting =>
        rw [State.runList_port_waiting _ hs, State.runList_port_waiting _ ht]
        obtain ⟨hends, hout⟩ := (h.startCall p).takeAnswer.endsAlike htaken
        exact ⟨hends, fun _ => hout⟩

/-! ### The silence -/

/-- What is left when a first part of the rest has been performed. -/
theorem State.rest_okRun {done later : List MicroOp} (h : s.rest = done ++ later) : (State.okRun done s).rest = later := by
  induction done generalizing s with
  | nil => exact h
  | cons m ms ih => exact ih (State.rest_okStep h)

theorem refusalOf_answers (i : Instr) (s : State) (a : List PortAnswer) :
    refusalOf i { s with answers := a } = refusalOf i s := by
  cases i <;> rfl

/-- An operation that is silent at `p` stops there, and goes on from there. -/
theorem State.resume_silent {done later : List MicroOp} {p : Primitive} {more : List PortAnswer}
    (hrest : s.rest = done ++ .port p :: later) (hpause : NoPause s)
    (ha : s.answers = List.replicate (portCount done) .ok ++ .waiting :: more) :
    s.resume.resume = State.runList State.finish (.port p :: later) ((State.okRun done s).startCall p).takeAnswer := by
  have hanswers : (State.okRun done s).answers = .waiting :: more := by rw [(State.okRun_answers done s).1, ha]; simp
  have hstops : s.resume = ((State.okRun done s).startCall p).takeAnswer := by
    rw [State.resume_noPause hpause, hrest, State.runList_append_ok (by simp [ha]),
      State.runList_port_waiting _ (by rw [State.nextAnswer, hanswers])]
  obtain ⟨-, -, -, -, -, -, -, hpauses⟩ := State.okRun_kept done s
  have hleft : ((State.okRun done s).startCall p).takeAnswer.rest = .port p :: later := by
    rw [← State.rest_okRun hrest]; simp [State.rest]
  rw [hstops, State.resume_noPause (by simp [NoPause, hpauses, hpause]), hleft]

/-- An operation that is answered comes to `p` too, and starting it is the first part of performing it. -/
theorem State.resume_answered {done later : List MicroOp} {p : Primitive} {more : List PortAnswer}
    (hrest : s.rest = done ++ .port p :: later) (hpause : NoPause s)
    (ha : s.answers = List.replicate (portCount done) .ok ++ more) :
    s.resume = State.runList State.finish (.port p :: later) ((State.okRun done s).startCall p) := by
  rw [State.resume_noPause hpause, hrest, State.runList_append_ok (by simp [ha])]
  exact (State.runList_startNext 0 (.port p :: later) (State.okRun done s)).symm

/-- A silence at primitive `k` leaves what is performed, and what is answered, from there on as it was. -/
theorem State.resume_silence {k : Nat} {more : List PortAnswer} (hk : k < portCount s.rest)
    (hlen : portCount s.rest - k ≤ more.length) (hpause : NoPause s)
    (ha : s.answers = List.replicate k .ok ++ .waiting :: more) :
    EndsAlike (State.resume { s with answers := List.replicate k .ok ++ more }) s.resume.resume ∧
      (.fault ∉ more.take (portCount s.rest - k) →
        s.resume.resume.out = (State.resume { s with answers := List.replicate k .ok ++ more }).out) := by
  obtain ⟨done, p, later, hrest, rfl, -⟩ := exists_port_split hk
  have hleft : portCount s.rest - portCount done = portCount (.port p :: later) := by
    rw [hrest, portCount_append, Nat.add_sub_cancel_left]
  let s' : State := { s with answers := List.replicate (portCount done) .ok ++ more }
  rw [State.resume_silent hrest hpause ha, State.resume_answered (s := s') hrest hpause rfl, hleft]
  have hsilent : ((State.okRun done s).startCall p).takeAnswer.answers = more := by
    simp [(State.okRun_answers done s).1, ha]
  have hanswered : ((State.okRun done s').startCall p).answers = more := by
    simp [(State.okRun_answers done s').1, s']
  have hagree : BlockAgrees ((State.okRun done s').startCall p) ((State.okRun done s).startCall p).takeAnswer := by
    obtain ⟨l, d, a, h⟩ : BlockAgrees ((State.okRun done s').startCall p) ((State.okRun done s).startCall p) :=
      (BlockAgrees.okRun done ⟨s.lcd, s.draws, s.answers, rfl⟩).startCall p
    exact ⟨l, d + 1, a.tail, by rw [h]; rfl⟩
  have hend := hagree.runList (ops := .port p :: later) (by rw [hsilent, hanswered])
    (by rw [← hleft, hanswered]; exact hlen)
  rwa [hanswered] at hend

end Sys2Proof.Machine

open Sys2Proof Sys2Proof.Machine

/-- Settles O33: the resumed and the undisturbed operation perform the same rest of the list on the same answers. -/
theorem silentPortOnlyDelays : Obligations.SilentPortOnlyDelays := by
  intro i s k more hb hr hrefusal hk hlen hpause ha
  have hwaits : PortThen k .waiting (s.start i) :=
    ⟨by change s.answers.take (k + 1) = _; simp [ha, List.take_append], hpause⟩
  obtain ⟨hbusy, hflight, hreplies, -, -, -, -, hreset⟩ := State.resume_waiting rfl (.start i s) hk hwaits
  obtain ⟨⟨l, d, o, hends⟩, hout⟩ := State.resume_silence (s := s.start i) hk hlen hpause ha
  refine ⟨_, _, _, exec_admitted hb hrefusal, hbusy, hflight, hreplies, step_busy (hreset.trans hr) hbusy,
    exec_admitted (s := { s with answers := List.replicate k .ok ++ more }) hb
      ((refusalOf_answers i s _).trans hrefusal), ?_⟩
  change State.resume (State.resume (s.start i)) = _ at hends
  rw [hends]
  exact ⟨rfl, rfl, rfl, rfl, rfl, rfl, rfl, rfl, rfl, rfl, rfl, rfl, ⟨⟨rfl, rfl, rfl, rfl⟩, rfl⟩,
    fun hno => by rw [← hends]; exact hout hno⟩

end

section
/-! # Two requests of one host, one behind the other

Settles O26 (spec/20_memory.md R69, R80; R246): what an instruction that is not disturbed leaves, and that a GOTO and a
WRITESTRING decode from their own words (spec/30_encoding.md R86, R90). -/

namespace Sys2Proof.Machine

/-! ### The frames of GOTO and WRITESTRING (R81, R86, R90) -/

/-- Every CW16 row asks for the whole `op` field, so a word is of no row with another `op` (R81, R82). -/
theorem opField_of_hits {r : Row 16} {w : CmdWord} (hmask : opField r.mask = 0xF#4) (h : r.hits w = true) :
    opField w = opField r.pattern := by
  rw [← eq_of_beq h, opField, opField, BitVec.extractLsb'_and, ← opField, ← opField, hmask]
  exact BitVec.and_allOnes.symm

theorem opField_append (op : BitVec 4) (arg : BitVec 12) : opField (op ++ arg) = op :=
  BitVec.extractLsb'_append_eq_left

theorem Row.hits_append_false {r : Row 16} {op : BitVec 4} (arg : BitVec 12) (hmask : opField r.mask = 0xF#4)
    (hop : opField r.pattern ≠ op) : r.hits (op ++ arg) = false :=
  Bool.eq_false_iff.mpr fun hits => hop (by rw [← opField_of_hits hmask hits, opField_append])

theorem lenField_append (op : BitVec 4) {n : Nat} (h : n ≤ 4095) : lenField (op ++ BitVec.ofNat 12 n) = n := by
  rw [lenField, BitVec.extractLsb'_append_eq_right, BitVec.toNat_ofNat, Nat.mod_eq_of_lt (by omega)]

/-- The second and the third of three fields (R81, R86). -/
theorem extract_fields {a b c : Nat} (x : BitVec a) (y : BitVec b) (z : BitVec c) :
    (x ++ (y ++ z)).extractLsb' c b = y ∧ (x ++ (y ++ z)).extractLsb' 0 c = z := by
  constructor <;> ext k hk
  · simp [BitVec.getLsbD_append, BitVec.getElem_append, show c + k < b + c by omega]
  · simp [BitVec.getLsbD_append, BitVec.getElem_append, show k < b + c by omega, hk]

theorem decodeWords_goto (row : BitVec 4) (column : BitVec 8) (dws : List CmdWord) :
    decodeWords (0x5#4 ++ (row ++ column)) dws = some (.goto row column) := by
  have hhit : rowGoto.hits (0x5#4 ++ (row ++ column)) = true := Laws.Table.hits_of_op 0x5 _
  have hrow : (0x5#4 ++ (row ++ column)).extractLsb' 8 4 = row := (extract_fields ..).1
  have hcolumn : (0x5#4 ++ (row ++ column)).extractLsb' 0 8 = column := (extract_fields ..).2
  have other {r : Row 16} := Row.hits_append_false (r := r) (op := 0x5#4) (row ++ column)
  simp only [decodeWords, hhit, hrow, hcolumn, other (r := rowSendbyte) (by decide) (by decide),
    other (r := rowInit) (by decide) (by decide), other (r := rowClear) (by decide) (by decide),
    other (r := rowHome) (by decide) (by decide), Bool.false_eq_true, if_false, if_true]

theorem decodeWords_writestring (arg : BitVec 12) (dws : List CmdWord) :
    decodeWords (0xA#4 ++ arg) dws = some (.writestring (dws.map dataByte)) := by
  have hhit : rowWritestring.hits (0xA#4 ++ arg) = true := Laws.Table.hits_of_op 0xA _
  have other {r : Row 16} := Row.hits_append_false (r := r) (op := 0xA#4) arg
  simp only [decodeWords, hhit, other (r := rowSendbyte) (by decide) (by decide),
    other (r := rowInit) (by decide) (by decide), other (r := rowClear) (by decide) (by decide),
    other (r := rowHome) (by decide) (by decide), other (r := rowGoto) (by decide) (by decide),
    other (r := rowSetentry) (by decide) (by decide), other (r := rowSetdisplay) (by decide) (by decide),
    other (r := rowSetmove) (by decide) (by decide), other (r := rowLoadglyphs) (by decide) (by decide),
    Bool.false_eq_true, if_false, if_true]

theorem dataByte_encodeData (b : Byte) : dataByte (encodeData b) = b := BitVec.extractLsb'_append_eq_right

theorem dataWordLegal_encodeData (b : Byte) : dataWordLegal (encodeData b) = true := by
  rw [dataWordLegal, encodeData, BitVec.extractLsb'_append_eq_left]; rfl

theorem decode_encode_goto (row : BitVec 4) (column : BitVec 8) :
    decode (encode (.goto row column)) = .instr (.goto row column) [] := by
  have hword : 0x5#4 ++ row ++ column = 0x5#4 ++ (row ++ column) := BitVec.append_assoc
  have hcount : dataWordCount (0x5#4 ++ (row ++ column)) = 0 := by
    have other {r : Row 16} := Row.hits_append_false (r := r) (op := 0x5#4) (row ++ column)
    simp [dataWordCount, other (r := rowLoadglyphs) (by decide) (by decide),
      other (r := rowWritestring) (by decide) (by decide)]
  simp only [encode, decode, decodeFrame, hword, hcount, decodeWords_goto]
  rfl

theorem decode_encode_writestring {text : List Byte} (h : lengthFits text = true) :
    decode (encode (.writestring text)) = .instr (.writestring text) [] := by
  have hlen : text.length ≤ 4095 := of_decide_eq_true h
  have hhit : rowWritestring.hits (0xA#4 ++ BitVec.ofNat 12 text.length) = true := Laws.Table.hits_of_op 0xA _
  have hcount : dataWordCount (0xA#4 ++ BitVec.ofNat 12 text.length) = (text.map encodeData).length := by
    simp [dataWordCount, hhit, lenField_append 0xA#4 hlen]
  have hbytes : (text.map encodeData).map dataByte = text := by
    simp [Function.comp_def, dataByte_encodeData]
  have hlegal : (text.map encodeData).all dataWordLegal = true := by simp [dataWordLegal_encodeData]
  simp only [encode, decode, decodeFrame, hcount, List.take_length, List.drop_length, Nat.lt_irrefl, if_false,
    decodeWords_writestring, hbytes, hlegal, if_true]

/-! ### An instruction that is not disturbed (R120) -/

theorem step_instr {s : State} {r : Request} {others : List Request} {i : Instr} {rest : List CmdWord}
    (hr : s.resetReq = false) (hb : s.busy = false) (hpending : s.pending = r :: others)
    (hdecode : decode r.offer = .instr i rest) : step s = exec i (s.takeRequest r others rest) := by
  simp [step, State.fetch, State.fetchRequest, hr, hb, hpending, hdecode]

theorem refusalOf_goto {row : BitVec 4} {column : BitVec 8} {s : State} (h : s.initialized = true)
    (hrow : row.toNat < s.cfg.geom.rows) (hcolumn : column.toNat < s.cfg.geom.columns) :
    refusalOf (.goto row column) s = none := by
  simp [refusalOf, gotoRefusal, State.guard, h, gotoInRange, hrow, hcolumn]

/-- The answers to two lists, one performed behind the other. -/
theorem PortOk.split {m n : Nat} {s t : State} (h : PortOk (m + n) s) (ha : t.answers = s.answers.drop m)
    (hp : t.pauses = s.pauses) : PortOk m s ∧ PortOk n t := by
  obtain ⟨hanswers, hpause⟩ := h
  refine ⟨⟨?_, hpause⟩, ?_, hp.trans hpause⟩
  · rw [← Nat.min_eq_left (Nat.le_add_right m n), ← List.take_take, hanswers, List.take_replicate,
      Nat.min_eq_left (by omega)]
  · rw [ha, List.take_drop, hanswers, List.drop_replicate, Nat.add_sub_cancel_left]

/-- The operation ends where its list does. -/
theorem exec_ok {i : Instr} {s : State} (hb : s.busy = false) (hr : refusalOf i s = none)
    (h : PortOk (portCount (expand s.cfg i)) s) :
    exec i s = .next (State.okRun (expand s.cfg i) (s.start i)).finish := by
  rw [exec_admitted hb hr]
  exact congrArg _ (State.runOps_ok (s := s.start i) h)

/-- What an operation leaves of the block that ran with nothing but `ok` (R30, R120). -/
theorem exec_ok_leaves {i : Instr} {s t : State} (hb : s.busy = false) (hr : refusalOf i s = none)
    (h : PortOk (portCount (expand s.cfg i)) s) (ht : exec i s = .next t) :
    t.busy = false ∧ t.replies = s.replies ++ [⟨s.issuer, .ok⟩] ∧
      t.trace = s.trace ++ traceOf s.cfg.outReg (expand s.cfg i) ∧ SurroundingsKept s t ∧
      t.answers = s.answers.drop (portCount (expand s.cfg i)) ∧ t.pauses = s.pauses := by
  obtain rfl : (s.start i).resume = t := by
    rw [exec_admitted hb hr] at ht
    injection ht
  obtain ⟨hidle, hreplies, htrace, hkept⟩ := State.resume_ok (s := s.start i) (.start i s) h
  refine ⟨hidle, hreplies, htrace, hkept, ?_⟩
  have hrun : (s.start i).resume = (State.okRun (expand s.cfg i) (s.start i)).finish := State.runOps_ok h
  obtain ⟨l, c, hfin⟩ := (State.okRun (expand s.cfg i) (s.start i)).finish_eq
  obtain ⟨hanswers, -⟩ := State.okRun_answers (expand s.cfg i) (s.start i)
  obtain ⟨-, -, -, -, -, -, -, hpauses⟩ := State.okRun_kept (expand s.cfg i) (s.start i)
  rw [hrun, hfin]
  exact ⟨hanswers, hpauses⟩

/-- The owner of a request plays no part in whether its instruction is refused. -/
theorem refusalOf_takeRequest (i : Instr) (s : State) (r : Request) (others : List Request) (rest : List CmdWord) :
    refusalOf i (s.takeRequest r others rest) = refusalOf i s := by
  cases i <;> rfl

/-- A request of one frame, at the head of the queue, whose instruction is not disturbed (R69, R120). -/
theorem step_undisturbed {s : State} {r : Request} {others : List Request} {i : Instr} (hr : s.resetReq = false)
    (hb : s.busy = false) (hpending : s.pending = r :: others) (hdecode : decode r.offer = .instr i [])
    (hrefusal : refusalOf i s = none) (hi : isInit i = false) (hport : PortOk (portCount (expand s.cfg i)) s) :
    ∃ t, step s = .next t ∧ t.busy = false ∧ t.resetReq = false ∧ t.cfg = s.cfg ∧ t.pending = others ∧
      t.initialized = s.initialized ∧ t.replies = s.replies ++ [⟨r.host, .ok⟩] ∧
      t.trace = s.trace ++ traceOf s.cfg.outReg (expand s.cfg i) ∧
      t.answers = s.answers.drop (portCount (expand s.cfg i)) ∧ t.pauses = s.pauses := by
  let s' := s.takeRequest r others []
  have hrefusal' : refusalOf i s' = none := (refusalOf_takeRequest i s r others []).trans hrefusal
  obtain ⟨t, ht⟩ : ∃ t, exec i s' = .next t := ⟨_, exec_admitted (s := s') hb hrefusal'⟩
  obtain ⟨hidle, hreplies, htrace, ⟨⟨-, hcfg, hqueue, -⟩, hreset⟩, hanswers, hpauses⟩ :=
    exec_ok_leaves (s := s') hb hrefusal' hport ht
  obtain ⟨hflag, -⟩ : FlagsKept s' t := exec_flagsKept hi ht
  exact ⟨t, (step_instr hr hb hpending hdecode).trans ht, hidle, hreset.trans hr, hcfg, hqueue, hflag, hreplies, htrace,
    hanswers, hpauses⟩

theorem portCount_sendData (c : Setup) (bytes : List Byte) : portCount (sendData c bytes) = 6 * bytes.length := by
  induction bytes with
  | nil => rfl
  | cons b bs ih =>
    rw [sendData, List.flatMap_cons, portCount_append, portCount_sendByte, ← sendData, ih, List.length_cons]
    omega

theorem traceOf_sendByte (c : Setup) (mode : Mode) (b : Byte) :
    traceOf c.outReg (sendByte c mode b) = byteEvents c mode b := rfl

theorem traceOf_sendData (c : Setup) (bytes : List Byte) :
    traceOf c.outReg (sendData c bytes) = bytes.flatMap (byteEvents c .data) := by
  induction bytes with
  | nil => rfl
  | cons b bs ih =>
    rw [sendData, List.flatMap_cons, traceOf_append, traceOf_sendByte, ← sendData, ih, List.flatMap_cons]

end Sys2Proof.Machine

open Sys2Proof Sys2Proof.Machine

/-- Settles O26: the two requests are taken from the head one behind the other, and neither operation is disturbed. -/
theorem burstStaysWhole : Obligations.BurstStaysWhole := by
  intro s host row column text others hr hb hready hfits hrow hcolumn hport hpending
  have hfirst : PortOk 6 s := (hport.split (t := { s with answers := s.answers.drop 6 }) rfl rfl).1
  obtain ⟨t, ht, hidle, hreset, hcfg, hqueue, hflag, hreplies, htrace, hanswers, hpauses⟩ :=
    step_undisturbed hr hb hpending (decode_encode_goto row column) (refusalOf_goto hready hrow hcolumn) rfl hfirst
  have hcount : portCount (expand t.cfg (.writestring text)) = 6 * text.length := portCount_sendData ..
  have hsecond : PortOk (portCount (expand t.cfg (.writestring text))) t := by
    rw [hcount]; exact (hport.split hanswers hpauses).2
  have htext : refusalOf (.writestring text) t = none := by simp [refusalOf, State.guard, hflag, hready]
  obtain ⟨u, hu, -, -, -, hqueue', -, hreplies', htrace', -, -⟩ :=
    step_undisturbed hreset hidle hqueue (decode_encode_writestring hfits) htext rfl hsecond
  have hbytes : traceOf t.cfg.outReg (expand t.cfg (.writestring text)) = text.flatMap (byteEvents s.cfg .data) := by
    rw [← hcfg]; exact traceOf_sendData ..
  exact ⟨t, u, ht, hu, by rw [htrace', hbytes, htrace]; rfl, hqueue', by rw [hreplies', hreplies, List.append_assoc]; rfl⟩

end

section
/-! # What the panel holds behind an operation

Bytes sent to a controller in step, each primitive answering `ok` (spec/20_memory.md R50, R60, R64 to R66; R98): the
block's side is followed by `PanelAt`, what the controller makes of a text by `Lcd.takeText` and `Memory.fill`. -/

namespace Sys2Proof.Machine

/-! ### Several cells, one behind the other -/

/-- Write these bytes from address `a` on. -/
def Memory.fill (m : Memory) (a : Nat) (bytes : List Byte) : Memory :=
  match bytes with
  | [] => m
  | b :: bs => Memory.fill (Memory.write m a b) (a + 1) bs

theorem Memory.read_fill_outside {m : Memory} {a x : Nat} {bytes : List Byte} (hx : x < a ∨ a + bytes.length ≤ x) :
    Memory.read (Memory.fill m a bytes) x = Memory.read m x := by
  induction bytes generalizing m a with
  | nil => rfl
  | cons b bs ih =>
    rw [List.length_cons] at hx
    rw [Memory.fill, ih (by omega), Memory.read_write_other m b (by omega)]

theorem Memory.read_fill_inside {m : Memory} {a k : Nat} {bytes : List Byte} (h : k < bytes.length) :
    Memory.read (Memory.fill m a bytes) (a + k) = some bytes[k] := by
  induction bytes generalizing m a k with
  | nil => simp at h
  | cons b bs ih =>
    cases k with
    | zero => exact (Memory.read_fill_outside (.inl (Nat.lt_succ_self a))).trans (Memory.read_write_same m a b)
    | succ k =>
      have hk : k < bs.length := by simpa using h
      rw [← Nat.succ_add_eq_add_succ]
      exact ih hk

/-! ### The two memories alike (R64, R65) -/

/-- How many cells the memory of this place has. -/
def Place.room (p : Place) : Nat :=
  match p with
  | .ddram _ => 128
  | .cgram _ => 64

/-- The address `n` of the memory of this place. -/
def Place.moved (p : Place) (n : Nat) : Place :=
  match p with
  | .ddram _ => .ddram (BitVec.ofNat 7 n)
  | .cgram _ => .cgram (BitVec.ofNat 6 n)

/-- The memory of this place. -/
def Lcd.memoryAt (p : Place) (l : Lcd) : Memory :=
  match p with
  | .ddram _ => l.ddram
  | .cgram _ => l.cgram

/-- The other one. -/
def Lcd.memoryBeside (p : Place) (l : Lcd) : Memory :=
  match p with
  | .ddram _ => l.cgram
  | .cgram _ => l.ddram

theorem Place.step_moved {p : Place} {n : Nat} (h : n + 1 < Place.room p) :
    Place.step true (Place.moved p n) = some (Place.moved p (n + 1)) := by
  cases p with
  | ddram a =>
    have hlast : BitVec.ofNat 7 n ≠ 0x7F#7 := by simp only [Place.room] at h; bv_omega
    simp [Place.moved, Place.step, hlast, BitVec.ofNat_add]
  | cgram a =>
    have hlast : BitVec.ofNat 6 n ≠ 0x3F#6 := by simp only [Place.room] at h; bv_omega
    simp [Place.moved, Place.step, hlast, BitVec.ofNat_add]

theorem Lcd.store_moved {p : Place} {l : Lcd} {n : Nat} (b : Byte) (hplace : l.regs.place = Place.moved p n)
    (hn : n < Place.room p) :
    (l.store b).memoryAt p = Memory.write (l.memoryAt p) n b ∧ (l.store b).memoryBeside p = l.memoryBeside p := by
  cases p with
  | ddram a =>
    have hn' : (BitVec.ofNat 7 n).toNat = n := Nat.mod_eq_of_lt hn
    simp only [Lcd.store, hplace, Place.moved, hn']
    exact ⟨rfl, rfl⟩
  | cgram a =>
    have hn' : (BitVec.ofNat 6 n).toNat = n := Nat.mod_eq_of_lt hn
    simp only [Lcd.store, hplace, Place.moved, hn']
    exact ⟨rfl, rfl⟩

/-! ### A text, byte by byte (R66, R189) -/

theorem Lcd.takeData_memory (k : Nat) (b : Byte) (p : Place) (l : Lcd) :
    (l.takeData k b).memoryAt p = (l.store b).memoryAt p ∧
      (l.takeData k b).memoryBeside p = (l.store b).memoryBeside p := by
  cases p <;> exact ⟨rfl, rfl⟩

/-- A Data byte is at the address counter and nowhere else (R50). -/
theorem Lcd.takeData_reads {p : Place} {n k : Nat} {b : Byte} {l : Lcd} (hplace : l.regs.place = Place.moved p n)
    (hn : n < Place.room p) :
    Memory.read ((l.takeData k b).memoryAt p) n = some b ∧ (l.takeData k b).memoryBeside p = l.memoryBeside p ∧
      ∀ x, x ≠ n → Memory.read ((l.takeData k b).memoryAt p) x = Memory.read (l.memoryAt p) x := by
  obtain ⟨hat, hbeside⟩ := l.takeData_memory k b p
  obtain ⟨hstored, hkept⟩ := Lcd.store_moved b hplace hn
  rw [hat, hbeside, hstored, hkept]
  exact ⟨Memory.read_write_same .., rfl, fun x hx => Memory.read_write_other _ b hx⟩

/-- What a Data byte leaves of the registers. -/
theorem Lcd.takeData_regs (k : Nat) (b : Byte) (l : Lcd) :
    (l.takeData k b).regs = { l.regs with
        half := none, place := (l.takeData k b).regs.place, view := (l.takeData k b).regs.view } ∧
      (l.takeData k b).owed = l.owed ∧ (l.regs.shiftOn = false → (l.takeData k b).regs.view = l.regs.view) ∧
      ∀ p, Place.step l.regs.inc l.regs.place = some p → (l.takeData k b).regs.place = p := by
  refine ⟨rfl, (l.store_regs b).2, fun h => ?_, fun p h => ?_⟩
  · simp [Lcd.takeData, h]
  · simp [Lcd.takeData, LcdRegs.movePlace, h]

/-- The Data bytes of a text; `k` is the index of the free values, and each byte draws six answers (R124). -/
def Lcd.takeText (k : Nat) (text : List Byte) (l : Lcd) : Lcd :=
  match text with
  | [] => l
  | b :: bs => (l.takeData (k + 6) b).takeText (k + 6) bs

/-- From address `n` of a memory on, and not past its end, the text fills it. -/
theorem Lcd.takeText_fills {p : Place} {k n : Nat} {text : List Byte} {l : Lcd} (hinc : l.regs.inc = true)
    (hplace : n < Place.room p → l.regs.place = Place.moved p n) (hlen : n + text.length ≤ Place.room p) :
    (l.takeText k text).memoryAt p = Memory.fill (l.memoryAt p) n text ∧
      (l.takeText k text).memoryBeside p = l.memoryBeside p ∧
      (n + text.length < Place.room p → (l.takeText k text).regs.place = Place.moved p (n + text.length)) := by
  induction text generalizing k n l with
  | nil => exact ⟨rfl, rfl, hplace⟩
  | cons b bs ih =>
    rw [List.length_cons] at hlen ⊢
    have hn : n < Place.room p := by omega
    obtain ⟨hat, hbeside⟩ := l.takeData_memory (k + 6) b p
    obtain ⟨hstored, hkept⟩ := Lcd.store_moved b (hplace hn) hn
    obtain ⟨-, -, -, hstep⟩ := l.takeData_regs (k + 6) b
    have hnext (h : n + 1 < Place.room p) : (l.takeData (k + 6) b).regs.place = Place.moved p (n + 1) :=
      hstep _ (by rw [hinc, hplace hn]; exact Place.step_moved h)
    obtain ⟨hfill, hother, hend⟩ := ih (k := k + 6) (l := l.takeData (k + 6) b) hinc hnext (by omega)
    refine ⟨?_, ?_, fun h => ?_⟩
    · rw [Lcd.takeText, hfill, hat, hstored, Memory.fill]
    · rw [Lcd.takeText, hother, hbeside, hkept]
    · rw [Lcd.takeText, hend (by omega), Nat.add_right_comm, Nat.add_assoc]

/-- So each byte of it is at its own address, and every other cell is as before. -/
theorem Lcd.takeText_reads {p : Place} {k n : Nat} {text : List Byte} {l : Lcd} (hinc : l.regs.inc = true)
    (hplace : n < Place.room p → l.regs.place = Place.moved p n) (hlen : n + text.length ≤ Place.room p) :
    (∀ j (h : j < text.length), Memory.read ((l.takeText k text).memoryAt p) (n + j) = some text[j]) ∧
      ∀ x, x < n ∨ n + text.length ≤ x →
        Memory.read ((l.takeText k text).memoryAt p) x = Memory.read (l.memoryAt p) x := by
  obtain ⟨hfill, -, -⟩ := Lcd.takeText_fills (k := k) hinc hplace hlen
  rw [hfill]
  exact ⟨fun _ h => Memory.read_fill_inside h, fun _ hx => Memory.read_fill_outside hx⟩

/-- A text leaves every setting, and the shift where the display does not shift with it. -/
theorem Lcd.takeText_regs {k : Nat} {text : List Byte} {l : Lcd} (hhalf : l.regs.half = none) :
    (l.takeText k text).regs = { l.regs with
        place := (l.takeText k text).regs.place, view := (l.takeText k text).regs.view } ∧
      (l.takeText k text).owed = l.owed ∧
      (l.regs.shiftOn = false → (l.takeText k text).regs.view = l.regs.view) := by
  induction text generalizing k l with
  | nil => exact ⟨rfl, rfl, fun _ => rfl⟩
  | cons b bs ih =>
    obtain ⟨hregs, howed, hview, -⟩ := l.takeData_regs (k + 6) b
    obtain ⟨hregs', howed', hview'⟩ := ih (k := k + 6) (l := l.takeData (k + 6) b) rfl
    refine ⟨?_, howed'.trans howed, fun h => (hview' h).trans (hview h)⟩
    rw [Lcd.takeText, hregs', hregs, ← hhalf]

/-! ### The block's side of it -/

/-- In step, of the controller alone (R34, R60). -/
def Lcd.inStep (l : Lcd) : Prop := l.regs.bus = .four ∧ l.regs.half = none ∧ l.owed = 0

/-- `t` is the block between two micro-operations of an operation begun in `s`: EN is low, `k` is the index of the free
values, and the controller is `l`. -/
structure PanelAt (s t : State) (k : Nat) (l : Lcd) : Prop where
  cfg : t.cfg = s.cfg
  begun : t.begun = false
  enLow : EnLow t
  draws : t.draws = k
  lcd : t.lcd = l

variable {s t : State} {k : Nat} {l : Lcd}

theorem PanelAt.start (i : Instr) (h : Framed s) : PanelAt s (s.start i) s.draws s.lcd := by
  obtain ⟨-, hen, -⟩ := h
  exact ⟨rfl, rfl, hen, rfl, rfl⟩

theorem PanelAt.framed (h : PanelAt s t k l) (hp : s.cfg.pinmap.Legal) (hl : l.inStep) : Framed t :=
  ⟨by rw [h.cfg]; exact hp, h.enLow, by rw [h.lcd]; exact hl⟩

/-- The high nibble that is held plays no part in what the byte does. -/
theorem Lcd.takeByte_holdHalf (k t : Nat) (rs : Bool) (b : Byte) (e : Latch) (l : Lcd) :
    (l.holdHalf e).takeByte k t rs b = l.takeByte k t rs b := by
  cases rs with
  | true =>
    cases hplace : l.regs.place <;>
      simp [Lcd.takeByte, Lcd.takeData, Lcd.store, Lcd.holdHalf, hplace, LcdRegs.movePlace]
  | false =>
    cases hr : readCommand b with
    | none => rw [Lcd.takeByte_noCommand hr, Lcd.takeByte_noCommand hr]; rfl
    | some i => rw [Lcd.takeByte_command hr, Lcd.takeByte_command hr]; cases i <;> rfl

/-- One nibble: the panel latches it once, at the end of the pulse (R122, R128). -/
theorem PanelAt.sendNibble {mode : Mode} {nib : Nibble} {dHi dLo : Nat} (hp : s.cfg.pinmap.Legal)
    (h : PanelAt s t k l) :
    PanelAt s (State.okRun (sendNibble s.cfg.pinmap mode nib dHi dLo) t) (k + 3)
      (Lcd.rest (Timing.waited s.cfg.timing dLo)
        ((l.rest (Timing.waited s.cfg.timing dHi)).latch (k + 3) s.cfg.timing.tClear ⟨Mode.rsLevel mode, nib⟩)) := by
  have hlow : pinLevel (outputWord t.cfg.pinmap mode nib) t.cfg.pinmap.en = false :=
    outputWord_enLow (by rw [h.cfg]; exact hp) ..
  have hen := State.okRun_sendNibble_enLow (dHi := dHi) (dLo := dLo) hlow h.begun
  obtain ⟨-, -, hdraws, hbegun, hcfg, -, -, -, hlcd⟩ :=
    State.okRun_sendNibble (dHi := dHi) (dLo := dLo) rfl hlow h.begun
  rw [h.cfg] at hen hdraws hbegun hcfg hlcd
  rw [h.draws] at hdraws
  refine ⟨hcfg, hbegun, hen, hdraws, ?_⟩
  rw [hlcd h.enLow, panelLatch_outputWord hp, h.lcd, h.draws]

/-- One byte to a controller in step (R124, R128). -/
theorem PanelAt.sendByte {mode : Mode} {b : Byte} (hp : s.cfg.pinmap.Legal) (hl : l.inStep) (h : PanelAt s t k l) :
    PanelAt s (State.okRun (sendByte s.cfg mode b) t) (k + 6)
      ((l.takeByte (k + 6) s.cfg.timing.tClear (Mode.rsLevel mode) b).rest
        (Timing.waited s.cfg.timing s.cfg.timing.tEn)) := by
  obtain ⟨hbus, hhalf, howed⟩ := hl
  rw [Machine.sendByte, State.okRun_append]
  have hhigh := h.sendNibble (mode := mode) (nib := highNibble b) (dHi := s.cfg.timing.tEn) (dLo := s.cfg.timing.tEn) hp
  have howed' : (l.holdHalf ⟨Mode.rsLevel mode, highNibble b⟩).owed = 0 := howed
  rw [Lcd.rest_settled howed, Lcd.latch_half howed hbus, Lcd.takeHalf_first hhalf, Lcd.rest_settled howed'] at hhigh
  have hlow := hhigh.sendNibble (mode := mode) (nib := lowNibble b) (dHi := s.cfg.timing.tEn) (dLo := s.cfg.timing.tEn) hp
  rwa [Lcd.rest_settled howed', Lcd.latch_half howed' hbus, Lcd.takeHalf_second rfl, highNibble_append_lowNibble,
    Lcd.takeByte_holdHalf] at hlow

theorem Lcd.takeData_inStep {b : Byte} (h : l.inStep) : (l.takeData k b).inStep := by
  obtain ⟨hbus, -, howed⟩ := h
  exact ⟨hbus, rfl, ((l.store_regs b).2).trans howed⟩

theorem PanelAt.sendDataByte {b : Byte} (hp : s.cfg.pinmap.Legal) (hl : l.inStep) (h : PanelAt s t k l) :
    PanelAt s (State.okRun (Machine.sendByte s.cfg .data b) t) (k + 6) (l.takeData (k + 6) b) := by
  obtain ⟨-, -, howed⟩ : (l.takeData (k + 6) b).inStep := Lcd.takeData_inStep hl
  have hsent := h.sendByte (mode := .data) (b := b) hp hl
  rwa [show l.takeByte (k + 6) _ (Mode.rsLevel .data) b = l.takeData (k + 6) b from rfl, Lcd.rest_settled howed] at hsent

/-- A text or a table (R187, R189). -/
theorem PanelAt.sendData {text : List Byte} (hp : s.cfg.pinmap.Legal) (hl : l.inStep) (h : PanelAt s t k l) :
    PanelAt s (State.okRun (sendData s.cfg text) t) (k + 6 * text.length) (l.takeText k text) := by
  induction text generalizing t k l with
  | nil => exact h
  | cons b bs ih =>
    rw [Machine.sendData, List.flatMap_cons, State.okRun_append, List.length_cons, Nat.mul_succ, Nat.add_comm (6 * _),
      ← Nat.add_assoc]
    exact ih (Lcd.takeData_inStep hl) (h.sendDataByte hp hl)

theorem Lcd.takeText_inStep {text : List Byte} (h : l.inStep) : (l.takeText k text).inStep := by
  induction text generalizing k l with
  | nil => exact h
  | cons b bs ih => exact ih (Lcd.takeData_inStep h)

/-- A command byte, whose settle may not be over yet (R98, R191). -/
theorem PanelAt.sendCommand {b : Byte} {i : Instr} (hp : s.cfg.pinmap.Legal) (hl : l.inStep) (h : PanelAt s t k l)
    (hread : readCommand b = some i) :
    PanelAt s (State.okRun (Machine.sendByte s.cfg .command b) t) (k + 6)
      ((l.obey (k + 6) s.cfg.timing.tClear i).rest (Timing.waited s.cfg.timing s.cfg.timing.tEn)) := by
  rw [← Lcd.takeByte_command hread]
  exact h.sendByte (mode := .command) hp hl

/-- The address counter is set (R64, R65). -/
def Lcd.pointAt (p : Place) (l : Lcd) : Lcd := { l with regs := { l.regs with half := none, place := p } }

theorem Lcd.pointAt_inStep (p : Place) (h : l.inStep) : (l.pointAt p).inStep := by
  obtain ⟨hbus, -, howed⟩ := h
  exact ⟨hbus, rfl, howed⟩

/-- A byte that sets the address counter. -/
theorem PanelAt.sendAddress {b : Byte} {i : Instr} {p : Place} (hp : s.cfg.pinmap.Legal) (hl : l.inStep)
    (h : PanelAt s t k l) (hread : readCommand b = some i) (hobey : ∀ k t, l.obey k t i = l.pointAt p) :
    PanelAt s (State.okRun (Machine.sendByte s.cfg .command b) t) (k + 6) (l.pointAt p) := by
  have hsent := h.sendCommand hp hl hread
  obtain ⟨-, -, howed⟩ := Lcd.pointAt_inStep p hl
  rwa [hobey, Lcd.rest_settled howed] at hsent

theorem PanelAt.dly (d : Nat) (h : PanelAt s t k l) :
    PanelAt s (State.okRun [.dly d] t) k (l.rest (Timing.waited s.cfg.timing d)) := by
  obtain ⟨-, htimer⟩ : t.inFlight = false ∧ t.timerOn = false := by simpa [State.begun] using h.begun
  refine ⟨(t.okStep_cfg (.dly d)).trans h.cfg, State.okStep_begun h.begun (.dly d), ?_, ?_, ?_⟩
  · simpa [EnLow, State.okStep] using h.enLow
  · simpa [State.okStep] using h.draws
  · simp [State.okStep, State.wait_lcd t d htimer, h.lcd, h.cfg]

/-! ### Instructions on the panel -/

/-- The end of an operation that neither loses the panel nor is INIT leaves the panel alone (R34). -/
theorem exec_ok_complete {i : Instr} (hb : s.busy = false) (hr : refusalOf i s = none) (hl : losesPanel i = false)
    (hi : isInit i = false) (hport : PortOk (portCount (expand s.cfg i)) s) :
    exec i s = .next ((State.okRun (expand s.cfg i) (s.start i)).complete .ok) := by
  obtain ⟨-, -, hop, -⟩ := State.okRun_kept (expand s.cfg i) (s.start i)
  rw [exec_ok hb hr hport, State.finish, hop]
  simp [State.start, State.panelAfter, hl, hi]

/-- Such an operation leaves the controller in step if its list does. -/
theorem exec_inStep {i : Instr} (hb : s.busy = false) (hr : refusalOf i s = none) (hl : losesPanel i = false)
    (hi : isInit i = false) (hport : PortOk (portCount (expand s.cfg i)) s) (hp : s.cfg.pinmap.Legal) (hin : l.inStep)
    (h : PanelAt s (State.okRun (expand s.cfg i) (s.start i)) k l) :
    ∃ t, exec i s = .next t ∧ Framed t ∧ t.lcd = l :=
  ⟨_, exec_ok_complete hb hr hl hi hport, h.framed hp hin, h.lcd⟩

theorem refusalOf_guarded {i : Instr} (h : s.initialized = true) (hgoto : ∀ row column, i ≠ .goto row column) :
    refusalOf i s = none := by
  have hguard : s.guard = none := by simp [State.guard, h]
  cases i with
  | goto row column => exact absurd rfl (hgoto row column)
  | init o => rfl
  | _ => exact hguard

/-! ### Command bytes (R98 to R101) -/

/-- A composed byte is the byte of its row (R101). -/
theorem entryByte_eq (i s : Bool) : entryByte i s = 0b000001#6 ++ bit i ++ bit s := by revert i s; decide
theorem displayByte_eq (d c b : Bool) : displayByte d c b = 0b00001#5 ++ bit d ++ bit c ++ bit b := by
  revert d c b; decide
theorem moveByte_eq (v r : Bool) : moveByte v r = 0b0001#4 ++ bit v ++ bit r ++ 0#2 := by revert v r; decide
theorem functionByte_eq (w n f : Bool) : functionByte w n f = 0b001#3 ++ bit w ++ bit n ++ bit f ++ 0#2 := by
  revert w n f; decide
theorem cgramByte_eq (a : BitVec 6) : cgramByte a = 0b01#2 ++ a := by revert a; decide
theorem ddramByte_eq (a : BitVec 7) : ddramByte a.toNat = 0b1#1 ++ a := by revert a; decide

/-- An LCD8 row is sent as its byte, the clear and the home with their settle (R191, R237). -/
theorem expand_of_encode {i : Instr} {b : Byte} (c : Setup) (h : encode i = .byte b) :
    ((i = .lcdDisplayClear ∨ i = .lcdDisplayHome) ∧ expand c i = sendSettled c b) ∨
      (i ≠ .lcdDisplayClear ∧ i ≠ .lcdDisplayHome ∧ expand c i = sendByte c .command b) := by
  cases i with
  | lcdDisplayClear => obtain rfl := Offered.byte.inj h; exact .inl ⟨.inl rfl, rfl⟩
  | lcdDisplayHome => obtain rfl := Offered.byte.inj h; exact .inl ⟨.inr rfl, rfl⟩
  | lcdEntryMode a s => obtain rfl := Offered.byte.inj h; exact .inr ⟨by simp, by simp, by rw [← entryByte_eq]; rfl⟩
  | lcdDisplayMode d cu bl =>
    obtain rfl := Offered.byte.inj h; exact .inr ⟨by simp, by simp, by rw [← displayByte_eq]; rfl⟩
  | lcdMoveMode v r => obtain rfl := Offered.byte.inj h; exact .inr ⟨by simp, by simp, by rw [← moveByte_eq]; rfl⟩
  | lcdFunctionSet w n f =>
    obtain rfl := Offered.byte.inj h; exact .inr ⟨by simp, by simp, by rw [← functionByte_eq]; rfl⟩
  | lcdCgramAddr a => obtain rfl := Offered.byte.inj h; exact .inr ⟨by simp, by simp, by rw [← cgramByte_eq]; rfl⟩
  | lcdDdramAddr a => obtain rfl := Offered.byte.inj h; exact .inr ⟨by simp, by simp, by rw [← ddramByte_eq]; rfl⟩
  | _ => simp [encode] at h

/-- The controller reads a byte of the table, but for the function sets, as its row. -/
theorem readCommand_encode {i : Instr} {b : Byte} (h : encode i = .byte b) (hset : isFunctionSet b = false) :
    readCommand b = some i := by
  cases i with
  | lcdDisplayClear => obtain rfl := Offered.byte.inj h; decide
  | lcdDisplayHome => obtain rfl := Offered.byte.inj h; decide
  | lcdEntryMode a s => obtain rfl := Offered.byte.inj h; revert a s; decide
  | lcdDisplayMode d c b => obtain rfl := Offered.byte.inj h; revert d c b; decide
  | lcdMoveMode v r => obtain rfl := Offered.byte.inj h; revert v r; decide
  | lcdFunctionSet w n f => obtain rfl := Offered.byte.inj h; revert w n f; decide
  | lcdCgramAddr a => obtain rfl := Offered.byte.inj h; revert a; decide
  | lcdDdramAddr a => obtain rfl := Offered.byte.inj h; revert a; decide
  | _ => simp [encode] at h

theorem losesPanel_encode {i : Instr} {b : Byte} (h : encode i = .byte b) (hset : isFunctionSet b = false) :
    losesPanel i = false := by
  cases i with
  | lcdFunctionSet w f g =>
    obtain ⟨hfunction, -⟩ := readCommand_functionSet (readCommand_encode h hset)
    simp [hset] at hfunction
  | nibEightbit | nibFourbit | init _ | sendbyte _ _ => simp [encode] at h
  | _ => rfl

theorem isInit_encode {i : Instr} {b : Byte} (h : encode i = .byte b) : isInit i = false := by
  cases i with
  | init o => simp [encode] at h
  | _ => rfl

theorem portCount_expand_encode {i : Instr} {b : Byte} (c : Setup) (h : encode i = .byte b) :
    portCount (expand c i) = 6 := by
  rcases expand_of_encode c h with ⟨-, hlist⟩ | ⟨-, -, hlist⟩ <;> rw [hlist]
  · rfl
  · exact portCount_sendByte ..

theorem Lcd.rest_all {d : Nat} (h : l.owed ≤ d) : l.rest d = { l with owed := 0 } := by
  rw [Lcd.rest, Nat.sub_eq_zero_of_le h]

/-- A row of the table, its settle over, leaves the controller in step unless it is a function set. -/
theorem Lcd.obey_inStep {t : Nat} {i : Instr} {b : Byte} (hread : readCommand b = some i) (hset : isFunctionSet b = false)
    (h : l.inStep) : Lcd.inStep { l.obey k t i with owed := 0 } := by
  obtain ⟨hbus, -, -⟩ := h
  obtain ⟨hhalf, -⟩ := l.obey_half k t i
  refine ⟨Lcd.obey_bus (fun w f g hi => ?_) hbus, hhalf, rfl⟩
  obtain ⟨hfunction, -⟩ := readCommand_functionSet (hi ▸ hread)
  simp [hset] at hfunction

/-- The list of an LCD8 row: its byte, and time enough for its settle (R191, R237). -/
theorem PanelAt.expandRow {i : Instr} {b : Byte} (hp : s.cfg.pinmap.Legal) (hl : l.inStep) (h : PanelAt s t k l)
    (hbyte : encode i = .byte b) (hset : isFunctionSet b = false) :
    PanelAt s (State.okRun (expand s.cfg i) t) (k + 6) { l.obey (k + 6) s.cfg.timing.tClear i with owed := 0 } := by
  have hsent := h.sendCommand hp hl (readCommand_encode hbyte hset)
  obtain ⟨-, -, howed⟩ := hl
  rcases expand_of_encode s.cfg hbyte with ⟨-, hlist⟩ | ⟨hclear, hhome, hlist⟩
  · have hover : (l.obey (k + 6) s.cfg.timing.tClear i).owed ≤ Timing.waited s.cfg.timing s.cfg.timing.tClear := by
      rcases (l.obey_half (k + 6) s.cfg.timing.tClear i).2 with h | h <;> rw [h]
      · rw [howed]; exact Nat.zero_le _
      · exact Timing.le_waited ..
    rw [hlist, sendSettled, State.okRun_append, ← Lcd.rest_all (hover.trans (Nat.le_add_left _ _)), ← Lcd.rest_rest]
    exact hsent.dly _
  · have hnone : (l.obey (k + 6) s.cfg.timing.tClear i).owed = 0 := (Lcd.obey_owed hclear hhome).trans howed
    rw [hlist, ← Lcd.rest_all (hnone.trans_le (Nat.zero_le _))]
    exact hsent

/-- What a byte of the table, but for the function sets, leaves of a controller in step: what its row does to it, the settle
over (R98, R191, R237). -/
theorem exec_commandByte {i : Instr} {b : Byte} (hb : s.busy = false) (hready : s.initialized = true) (hframed : Framed s)
    (hport : PortOk 6 s) (hbyte : encode i = .byte b) (hset : isFunctionSet b = false) :
    ∃ t, exec i s = .next t ∧ Framed t ∧
      t.lcd = { s.lcd.obey (s.draws + 6) s.cfg.timing.tClear i with owed := 0 } := by
  have hstart := PanelAt.start i hframed
  obtain ⟨hp, -, hin⟩ := hframed
  have hrefusal : refusalOf i s = none :=
    refusalOf_guarded hready fun row column hi => by subst hi; simp [encode] at hbyte
  exact exec_inStep hb hrefusal (losesPanel_encode hbyte hset) (isInit_encode hbyte)
    (by rw [portCount_expand_encode s.cfg hbyte]; exact hport) hp
    (Lcd.obey_inStep (readCommand_encode hbyte hset) hset hin) (hstart.expandRow hp hin hbyte hset)

/-! ### WRITESTRING and LOADGLYPHS (R187, R189, R190) -/

theorem exec_writestring_lcd {text : List Byte} (hb : s.busy = false) (hready : s.initialized = true) (hframed : Framed s)
    (hport : PortOk (6 * text.length) s) :
    ∃ t, exec (.writestring text) s = .next t ∧ Framed t ∧ t.lcd = s.lcd.takeText s.draws text := by
  have hstart := PanelAt.start (.writestring text) hframed
  obtain ⟨hp, -, hin⟩ := hframed
  have hcount : portCount (expand s.cfg (.writestring text)) = 6 * text.length := portCount_sendData ..
  exact exec_inStep hb (refusalOf_guarded hready (by simp)) rfl rfl (by rw [hcount]; exact hport) hp
    (Lcd.takeText_inStep hin) (hstart.sendData hp hin)

/-- The byte of row 0, column 0 (R190). -/
theorem readCommand_addrReset (g : Geometry) :
    readCommand (ddramByte (rowStartOf g 0)) = some (.lcdDdramAddr (g.rowStart.getD 0 0)) :=
  readCommand_encode (by rw [rowStartOf, ddramByte_eq]; rfl) (ddramByte_notFunctionSet _)

theorem exec_loadglyphs_lcd {table : List Byte} (hb : s.busy = false) (hready : s.initialized = true) (hframed : Framed s)
    (hport : PortOk (6 * (table.length + 2)) s) :
    ∃ t, exec (.loadglyphs table) s = .next t ∧ Framed t ∧
      t.lcd = ((s.lcd.pointAt (.cgram 0)).takeText (s.draws + 6) table).pointAt
        (.ddram (s.cfg.geom.rowStart.getD 0 0)) := by
  have hstart := PanelAt.start (.loadglyphs table) hframed
  obtain ⟨hp, -, hin⟩ := hframed
  have hin₁ : (s.lcd.pointAt (.cgram 0)).inStep := Lcd.pointAt_inStep _ hin
  have hin₂ : ((s.lcd.pointAt (.cgram 0)).takeText (s.draws + 6) table).inStep := Lcd.takeText_inStep hin₁
  have hcgram := hstart.sendAddress (b := cgramByte 0) (i := .lcdCgramAddr 0) hp hin (by decide) fun _ _ => rfl
  have hback := (hcgram.sendData hp hin₁).sendAddress hp hin₂ (readCommand_addrReset s.cfg.geom) fun _ _ => rfl
  rw [← State.okRun_append, ← State.okRun_append, ← List.append_assoc] at hback
  have hcount : portCount (expand s.cfg (.loadglyphs table)) = 6 * (table.length + 2) := by
    simp only [expand, expandLoadglyphs, addrReset, portCount_append, portCount_sendData, portCount_sendByte]
    omega
  exact exec_inStep hb (refusalOf_guarded hready (by simp)) rfl rfl (by rw [hcount]; exact hport) hp
    (Lcd.pointAt_inStep _ hin₂) hback

/-- A controller in step holds no half and owes nothing. -/
theorem Lcd.inStep_eq (h : l.inStep) : l = { l with regs := { l.regs with half := none }, owed := 0 } := by
  obtain ⟨-, hhalf, howed⟩ := h
  rw [← hhalf, ← howed]

end Sys2Proof.Machine
end

section
/-! # The obligations of the panel's memories (spec/20_memory.md) -/

open Sys2Proof Sys2Proof.Machine

/-- Settles O52: the text fills DDRAM from the address counter on. -/
theorem writestringFillsDdram : Obligations.WritestringFillsDdram := by
  intro s text a hb hready hframed hplace hinc hlen hport
  obtain ⟨t, ht, hframed', hlcd⟩ := exec_writestring_lcd hb hready hframed hport
  obtain ⟨-, -, -, hhalf, -⟩ := hframed
  have hstart : a.toNat < Place.room (.ddram a) → s.lcd.regs.place = Place.moved (.ddram a) a.toNat := fun _ => by
    simp [hplace, Place.moved]
  obtain ⟨hinside, houtside⟩ := Lcd.takeText_reads (k := s.draws) hinc hstart hlen
  obtain ⟨-, hcgram, hend⟩ := Lcd.takeText_fills (k := s.draws) hinc hstart hlen
  obtain ⟨hregs, -, hview⟩ := Lcd.takeText_regs (k := s.draws) (text := text) hhalf
  rw [← hlcd] at hinside houtside hcgram hend hregs hview
  exact ⟨t, ht, hframed', hinside, houtside, hcgram, hregs, fun h => hend (Nat.lt_succ_of_le h), hview⟩

/-- Settles O53: the table fills CGRAM from its first cell on, and the address byte after it leaves the memories. -/
theorem loadglyphsFillsCgram : Obligations.LoadglyphsFillsCgram := by
  intro s table hb hready hframed hinc hlen hport
  obtain ⟨t, ht, hframed', hlcd⟩ := exec_loadglyphs_lcd hb hready hframed hport
  obtain ⟨-, -, -, hhalf, -⟩ := hframed
  have hinc' : (s.lcd.pointAt (.cgram 0)).regs.inc = true := hinc
  have hlen' : 0 + table.length ≤ Place.room (.cgram 0) := by rw [Nat.zero_add]; exact hlen
  obtain ⟨hinside, houtside⟩ := Lcd.takeText_reads (k := s.draws + 6) hinc' (fun _ => rfl) hlen'
  obtain ⟨-, hddram, -⟩ := Lcd.takeText_fills (k := s.draws + 6) hinc' (fun _ => rfl) hlen'
  obtain ⟨hregs, -, hview⟩ := Lcd.takeText_regs (k := s.draws + 6) (text := table) (l := s.lcd.pointAt (.cgram 0)) rfl
  simp only [Nat.zero_add] at hinside houtside
  refine ⟨t, ht, hframed', ?_⟩
  rw [hlcd]
  refine ⟨hinside, fun x hx => houtside x (.inr hx), hddram, ?_, hview⟩
  rw [Lcd.pointAt, hregs, Lcd.pointAt, ← hhalf]

/-- Settles O55: each row is sent as its byte, and `Lcd.obey` says what it does. -/
theorem commandBytesOnPanel : Obligations.CommandBytesOnPanel := by
  intro s hb hready hframed hport
  have row {i : Instr} {b : Byte} (hbyte : encode i = .byte b) (hset : isFunctionSet b = false) :=
    exec_commandByte hb hready hframed hport hbyte hset
  obtain ⟨-, -, hin⟩ := hframed
  have hl := Lcd.inStep_eq hin
  refine ⟨?_, ?_, fun a sh => ?_, fun d c b => ?_, fun r => ?_, fun r a hstep => ?_, fun a => ?_, fun a => ?_⟩
  · obtain ⟨t, ht, hf, hlcd⟩ := row (i := .lcdDisplayClear) rfl (by decide)
    exact ⟨t, ht, hf, by rw [hlcd]; rfl, by rw [hlcd]; rfl, by rw [hlcd, hl]; rfl⟩
  · obtain ⟨t, ht, hf, hlcd⟩ := row (i := .lcdDisplayHome) rfl (by decide)
    exact ⟨t, ht, hf, by rw [hlcd]; rfl, by rw [hlcd]; rfl, by rw [hlcd, hl]; rfl⟩
  · obtain ⟨t, ht, hf, hlcd⟩ := row (i := .lcdEntryMode a sh) rfl (by revert a sh; decide)
    exact ⟨t, ht, hf, by rw [hlcd, hl]; rfl⟩
  · obtain ⟨t, ht, hf, hlcd⟩ := row (i := .lcdDisplayMode d c b) rfl (by revert d c b; decide)
    exact ⟨t, ht, hf, by rw [hlcd, hl]; rfl⟩
  · obtain ⟨t, ht, hf, hlcd⟩ := row (i := .lcdMoveMode true r) rfl (by revert r; decide)
    exact ⟨t, ht, hf, by rw [hlcd, hl]; rfl⟩
  · obtain ⟨t, ht, hf, hlcd⟩ := row (i := .lcdMoveMode false r) rfl (by cases r <;> decide)
    refine ⟨t, ht, hf, ?_⟩
    rw [hlcd, hl]
    simp [Lcd.obey, LcdRegs.movePlace, hstep]
  · obtain ⟨t, ht, hf, hlcd⟩ := row (i := .lcdCgramAddr a) rfl (by revert a; decide)
    exact ⟨t, ht, hf, by rw [hlcd, hl]; rfl⟩
  · obtain ⟨t, ht, hf, hlcd⟩ := row (i := .lcdDdramAddr a) rfl (by revert a; decide)
    exact ⟨t, ht, hf, by rw [hlcd, hl]; rfl⟩

/-- Settles O56: a Data byte goes to the address counter; a Command byte does what its row does, the settle behind it aside. -/
theorem sendbyteOnPanel : Obligations.SendbyteOnPanel := by
  intro s b hb hready hframed hport
  refine ⟨?_, fun i hbyte hset => ?_⟩
  · have hstart := PanelAt.start (.sendbyte b .data) hframed
    obtain ⟨hp, -, hin⟩ := hframed
    have hadmitted : refusalOf (.sendbyte b .data) s = none := refusalOf_guarded hready (by simp)
    obtain ⟨t, ht, hframed', hlcd⟩ := exec_inStep hb hadmitted rfl rfl hport hp (Lcd.takeData_inStep hin)
      (hstart.sendDataByte hp hin)
    obtain ⟨hregs, -, hview, hstep⟩ := s.lcd.takeData_regs (s.draws + 6) b
    obtain ⟨-, hhalf, -⟩ := hin
    refine ⟨t, ht, hframed', ?_⟩
    rw [hlcd]
    exact ⟨fun a ha => Lcd.takeData_reads (p := .ddram a) (by simpa [Place.moved] using ha) a.isLt,
      fun a ha => Lcd.takeData_reads (p := .cgram a) (by simpa [Place.moved] using ha) a.isLt, hstep,
      hregs.trans (by rw [← hhalf]), hview⟩
  · obtain ⟨u, hu, -, hlcd⟩ := exec_commandByte hb hready hframed hport hbyte hset
    have hstart := PanelAt.start (.sendbyte b .command) hframed
    obtain ⟨hp, -, hin⟩ := hframed
    have hsent := hstart.sendCommand hp hin (readCommand_encode hbyte hset)
    have hadmitted : refusalOf (.sendbyte b .command) s = none := refusalOf_guarded hready (by simp)
    have hkept : losesPanel (.sendbyte b .command) = false := by simp [losesPanel, hset]
    have hlist : expand s.cfg (.sendbyte b .command) = sendByte s.cfg .command b := rfl
    refine ⟨_, u, exec_ok_complete hb hadmitted hkept rfl hport, hu, ?_⟩
    rw [hlcd, State.complete_lcd, hlist, hsent.lcd]
    exact ⟨rfl, rfl, rfl⟩

end

section
/-! # Encodings, both ways

Settles O1 to O4 and O35 (spec/30_encoding.md R80 to R91, R99 to R102): what a row of the opcode table asks of a
word, the rows as the decoder reads them, and the two round trips. -/

namespace Sys2Proof.Machine

/-! ### Fields of a word -/

/-- One bit of a word is a field of width 1, so that bits and fields join alike. -/
theorem bit_getLsbD {n : Nat} (w : BitVec n) (k : Nat) : bit (w.getLsbD k) = w.extractLsb' k 1 := by
  ext j hj
  obtain rfl : j = 0 := by omega
  simp [bit]

theorem bit_ofBit (b : Bool) : (Mode.ofBit b).bit = bit b := by cases b <;> rfl

/-- A bit joined on the right is bit 0, and the others move up by one. -/
theorem getLsbD_zero_append_bit {n : Nat} (x : BitVec n) (b : Bool) : (x ++ bit b).getLsbD 0 = b := by
  rw [BitVec.getLsbD_append]; cases b <;> rfl

theorem getLsbD_succ_append_bit {n : Nat} (x : BitVec n) (b : Bool) (k : Nat) :
    (x ++ bit b).getLsbD (k + 1) = x.getLsbD k := by
  simp [bit, BitVec.getLsbD_append]

theorem append_eq_append_iff {a b : Nat} {x x' : BitVec a} {y y' : BitVec b} : x ++ y = x' ++ y' ↔ x = x' ∧ y = y' := by
  refine ⟨fun h => ⟨?_, ?_⟩, fun ⟨hx, hy⟩ => hx ▸ hy ▸ rfl⟩
  · rw [← BitVec.extractLsb'_append_eq_left (a := x) (b := y), h, BitVec.extractLsb'_append_eq_left]
  · rw [← BitVec.extractLsb'_append_eq_right (a := x) (b := y), h, BitVec.extractLsb'_append_eq_right]

/-- A row that asks for the `op` field and for `k` zeros behind it (R81, R91). -/
theorem Row.hits_iff_fields {k j : Nat} (op : BitVec 4) (w : BitVec (4 + k + j)) :
    (⟨0xF#4 ++ BitVec.allOnes k ++ 0#j, op ++ 0#k ++ 0#j⟩ : Row (4 + k + j)).hits w = true ↔
      w.extractLsb' (k + j) 4 = op ∧ w.extractLsb' j k = 0#k := by
  have hw : w = w.extractLsb' (k + j) 4 ++ w.extractLsb' j k ++ w.extractLsb' 0 j := by
    rw [BitVec.extractLsb'_append_extractLsb'_eq_extractLsb' (Nat.add_comm k j),
      BitVec.extractLsb'_append_extractLsb'_eq_extractLsb' (Nat.zero_add j).symm, BitVec.extractLsb'_eq_self]
  have hop (x : BitVec 4) : x &&& 0xF#4 = x := BitVec.and_allOnes
  rw [Row.hits, beq_iff_eq]
  conv_lhs => rw [hw]
  simp only [BitVec.and_append, hop, BitVec.and_allOnes, BitVec.and_zero, append_eq_append_iff, and_true]

section
variable (cw : CmdWord)

@[simp] theorem rowSendbyte_hits : rowSendbyte.hits cw = true ↔ opField cw = 0x1#4 ∧ cw.extractLsb' 9 3 = 0#3 :=
  Row.hits_iff_fields (k := 3) (j := 9) 0x1#4 cw
@[simp] theorem rowInit_hits : rowInit.hits cw = true ↔ opField cw = 0x2#4 ∧ cw.extractLsb' 10 2 = 0#2 :=
  Row.hits_iff_fields (k := 2) (j := 10) 0x2#4 cw
@[simp] theorem rowClear_hits : rowClear.hits cw = true ↔ opField cw = 0x3#4 ∧ cw.extractLsb' 0 12 = 0#12 :=
  Row.hits_iff_fields (k := 12) (j := 0) 0x3#4 cw
@[simp] theorem rowHome_hits : rowHome.hits cw = true ↔ opField cw = 0x4#4 ∧ cw.extractLsb' 0 12 = 0#12 :=
  Row.hits_iff_fields (k := 12) (j := 0) 0x4#4 cw
@[simp] theorem rowSetentry_hits : rowSetentry.hits cw = true ↔ opField cw = 0x6#4 ∧ cw.extractLsb' 2 10 = 0#10 :=
  Row.hits_iff_fields (k := 10) (j := 2) 0x6#4 cw
@[simp] theorem rowSetdisplay_hits : rowSetdisplay.hits cw = true ↔ opField cw = 0x7#4 ∧ cw.extractLsb' 3 9 = 0#9 :=
  Row.hits_iff_fields (k := 9) (j := 3) 0x7#4 cw
@[simp] theorem rowSetmove_hits : rowSetmove.hits cw = true ↔ opField cw = 0x8#4 ∧ cw.extractLsb' 2 10 = 0#10 :=
  Row.hits_iff_fields (k := 10) (j := 2) 0x8#4 cw

/-- The rows of GOTO, LOADGLYPHS and WRITESTRING have no reserved `arg` bits (R86, R90). -/
@[simp] theorem rowGoto_hits : rowGoto.hits cw = true ↔ opField cw = 0x5#4 :=
  (Row.hits_iff_fields (k := 0) (j := 12) 0x5#4 cw).trans (and_iff_left (Subsingleton.elim ..))
@[simp] theorem rowLoadglyphs_hits : rowLoadglyphs.hits cw = true ↔ opField cw = 0x9#4 :=
  (Row.hits_iff_fields (k := 0) (j := 12) 0x9#4 cw).trans (and_iff_left (Subsingleton.elim ..))
@[simp] theorem rowWritestring_hits : rowWritestring.hits cw = true ↔ opField cw = 0xA#4 :=
  (Row.hits_iff_fields (k := 0) (j := 12) 0xA#4 cw).trans (and_iff_left (Subsingleton.elim ..))

/-- Only LOADGLYPHS and WRITESTRING have data words (R90). -/
theorem dataWordCount_eq : dataWordCount cw = if opField cw = 0x9#4 ∨ opField cw = 0xA#4 then lenField cw else 0 := by
  simp only [dataWordCount, Bool.or_eq_true, rowLoadglyphs_hits, rowWritestring_hits]

end

/-! ### The CW16 rows (R82) -/

/-- A row of the table and how its words are read. -/
structure CwRow where
  row : Row 16
  read : CmdWord → List CmdWord → Instr

namespace CwRow

@[simp] def sendbyte : CwRow := ⟨rowSendbyte, fun cw _ => .sendbyte (cw.extractLsb' 0 8) (Mode.ofBit (cw.getLsbD 8))⟩
@[simp] def init : CwRow := ⟨rowInit, fun cw _ => .init (initOptions cw)⟩
@[simp] def clear : CwRow := ⟨rowClear, fun _ _ => .clear⟩
@[simp] def home : CwRow := ⟨rowHome, fun _ _ => .home⟩
@[simp] def goto : CwRow := ⟨rowGoto, fun cw _ => .goto (cw.extractLsb' 8 4) (cw.extractLsb' 0 8)⟩
@[simp] def setentry : CwRow := ⟨rowSetentry, fun cw _ => .setentry (cw.getLsbD 1) (cw.getLsbD 0)⟩
@[simp] def setdisplay : CwRow :=
  ⟨rowSetdisplay, fun cw _ => .setdisplay (cw.getLsbD 2) (cw.getLsbD 1) (cw.getLsbD 0)⟩
@[simp] def setmove : CwRow := ⟨rowSetmove, fun cw _ => .setmove (cw.getLsbD 1) (cw.getLsbD 0)⟩
@[simp] def loadglyphs : CwRow := ⟨rowLoadglyphs, fun _ dws => .loadglyphs (dws.map dataByte)⟩
@[simp] def writestring : CwRow := ⟨rowWritestring, fun _ dws => .writestring (dws.map dataByte)⟩

end CwRow

/-- The rows in the order in which `decodeWords` tries them. -/
def cwRows : List CwRow :=
  [.sendbyte, .init, .clear, .home, .goto, .setentry, .setdisplay, .setmove, .loadglyphs, .writestring]

theorem CwRow.find_cons (r : CwRow) (rs : List CwRow) (cw : CmdWord) (dws : List CmdWord) :
    ((r :: rs).find? (·.row.hits cw)).map (·.read cw dws) =
      if r.row.hits cw then some (r.read cw dws) else (rs.find? (·.row.hits cw)).map (·.read cw dws) := by
  rw [List.find?_cons]
  cases r.row.hits cw <;> rfl

theorem decodeWords_eq_find (cw : CmdWord) (dws : List CmdWord) :
    decodeWords cw dws = (cwRows.find? (·.row.hits cw)).map (·.read cw dws) := by
  simp only [cwRows, CwRow.find_cons]
  rfl

/-- Every row asks for the whole `op` field (R81). -/
theorem cwRows_mask : ∀ r ∈ cwRows, opField r.row.mask = 0xF#4 := by
  simp only [cwRows, List.forall_mem_cons]
  decide

/-- Each row asks for another `op`, so a word is of one row at most (R82). -/
theorem CwRow.unique {r r' : CwRow} {cw : CmdWord} (hr : r ∈ cwRows) (hr' : r' ∈ cwRows) (h : r.row.hits cw = true)
    (h' : r'.row.hits cw = true) : r = r' := by
  have hops : (cwRows.map fun r => opField r.row.pattern).Nodup := by decide
  exact List.inj_on_of_nodup_map hops hr hr'
    ((opField_of_hits (cwRows_mask r hr) h).symm.trans (opField_of_hits (cwRows_mask r' hr') h'))

/-- A command word is decoded by the row it is a word of. -/
theorem decodeWords_eq_some_iff {cw : CmdWord} {dws : List CmdWord} {i : Instr} :
    decodeWords cw dws = some i ↔ ∃ r ∈ cwRows, r.row.hits cw = true ∧ r.read cw dws = i := by
  rw [decodeWords_eq_find, Option.map_eq_some_iff]
  constructor
  · rintro ⟨r, hfind, hread⟩
    have hhit := List.find?_some (p := fun r : CwRow => r.row.hits cw) hfind
    exact ⟨r, List.mem_of_find?_eq_some hfind, hhit, hread⟩
  · rintro ⟨r, hr, hhit, hread⟩
    obtain ⟨r', hfind⟩ := Option.isSome_iff_exists.mp
      (List.find?_isSome (p := fun r : CwRow => r.row.hits cw).mpr ⟨r, hr, hhit⟩)
    have hhit' := List.find?_some (p := fun r : CwRow => r.row.hits cw) hfind
    obtain rfl := CwRow.unique hr (List.mem_of_find?_eq_some hfind) hhit hhit'
    exact ⟨r, hfind, hread⟩

theorem decodeWords_eq_none_iff {cw : CmdWord} {dws : List CmdWord} :
    decodeWords cw dws = none ↔ ∀ r ∈ cwRows, r.row.hits cw ≠ true := by
  rw [decodeWords_eq_find, Option.map_eq_none_iff, List.find?_eq_none]

/-! ### Frames (R80, R90) -/

section
variable {cw : CmdWord} {dws rest : List CmdWord} {i : Instr}

/-- A frame with all its data words there is read by its command word; what follows is left over. -/
theorem decodeFrame_reserved (hcount : dws.length = dataWordCount cw) (h : decodeWords cw dws = none) :
    decodeFrame (cw :: (dws ++ rest)) = .reserved (reservedWhy cw) rest := by
  simp [decodeFrame, ← hcount, h]

theorem decodeFrame_row (hcount : dws.length = dataWordCount cw) (h : decodeWords cw dws = some i) :
    decodeFrame (cw :: (dws ++ rest)) = if dws.all dataWordLegal then .instr i rest else .reserved .dataWord rest := by
  simp [decodeFrame, ← hcount, h]

/-- Words that decode are a command word, its data words and what is left over. -/
theorem decodeFrame_instr {words : List CmdWord} (h : decodeFrame words = .instr i rest) :
    ∃ cw dws, words = cw :: (dws ++ rest) ∧ dws.length = dataWordCount cw ∧ decodeWords cw dws = some i ∧
      dws.all dataWordLegal = true := by
  cases words with
  | nil => simp [decodeFrame] at h
  | cons cw more =>
    by_cases hlen : more.length < dataWordCount cw
    · simp [decodeFrame, hlen] at h
    have hcount : (more.take (dataWordCount cw)).length = dataWordCount cw := by simpa using hlen
    have hmore := List.take_append_drop (dataWordCount cw) more
    cases hrow : decodeWords cw (more.take (dataWordCount cw)) with
    | none =>
      rw [← hmore, decodeFrame_reserved hcount hrow] at h
      cases h
    | some j =>
      rw [← hmore, decodeFrame_row hcount hrow] at h
      by_cases hlegal : (more.take (dataWordCount cw)).all dataWordLegal = true
      · rw [if_pos hlegal] at h
        injection h with hi hrest
        exact ⟨cw, _, by rw [← hrest, hmore], hcount, hi ▸ hrow, hlegal⟩
      · rw [if_neg hlegal] at h
        cases h

end

/-! ### Decoding an encoded frame -/

theorem dataWordCount_of_row {r : CwRow} {cw : CmdWord} (hr : r ∈ cwRows) (h : r.row.hits cw = true) :
    dataWordCount cw = if opField r.row.pattern = 0x9#4 ∨ opField r.row.pattern = 0xA#4 then lenField cw else 0 := by
  rw [dataWordCount_eq, opField_of_hits (cwRows_mask r hr) h]

/-- The words are a whole frame, with nothing left over, that the decoder reads as the instruction. -/
def ReadsAs (i : Instr) (words : List CmdWord) : Prop :=
  ∃ cw dws, words = cw :: dws ∧ dws.length = dataWordCount cw ∧ decodeWords cw dws = some i ∧
    dws.all dataWordLegal = true

/-- A frame of one word. -/
theorem ReadsAs.word {i : Instr} {cw : CmdWord} {r : CwRow} (hr : r ∈ cwRows) (h : r.row.hits cw = true)
    (hop : opField r.row.pattern ≠ 0x9#4 ∧ opField r.row.pattern ≠ 0xA#4) (hread : r.read cw [] = i) : ReadsAs i [cw] :=
  ⟨cw, [], rfl, by simp [dataWordCount_of_row hr h, hop], decodeWords_eq_some_iff.mpr ⟨r, hr, h, hread⟩, rfl⟩

/-- A frame with a byte in each data word (R90). -/
theorem ReadsAs.bytes {op : BitVec 4} {bytes : List Byte} {r : CwRow} (hr : r ∈ cwRows)
    (hfits : lengthFits bytes = true) (h : r.row.hits (op ++ BitVec.ofNat 12 bytes.length) = true)
    (hop : opField r.row.pattern = 0x9#4 ∨ opField r.row.pattern = 0xA#4) :
    ReadsAs (r.read (op ++ BitVec.ofNat 12 bytes.length) (bytes.map encodeData))
      ((op ++ BitVec.ofNat 12 bytes.length) :: bytes.map encodeData) := by
  refine ⟨_, _, rfl, ?_, decodeWords_eq_some_iff.mpr ⟨r, hr, h, rfl⟩, by simp [dataWordLegal_encodeData]⟩
  rw [dataWordCount_of_row hr h, if_pos hop, lenField_append op (of_decide_eq_true hfits), List.length_map]

theorem map_dataByte_encodeData (bytes : List Byte) : (bytes.map encodeData).map dataByte = bytes := by
  simp [Function.comp_def, dataByte_encodeData]

/-- The frame of an instruction is read as that instruction. -/
theorem encode_readsAs {i : Instr} {words : List CmdWord} (hi : i.wellFormed = true) (h : encode i = .frame words) :
    ReadsAs i words := by
  cases i with
  | sendbyte p m =>
    obtain rfl := Offered.frame.inj h
    refine .word (r := .sendbyte) (by simp [cwRows]) (Laws.Table.sendbyte p m) (by decide) ?_
    have hpayload : (0x1#4 ++ 0#3 ++ m.bit ++ p).extractLsb' 0 8 = p := BitVec.extractLsb'_append_eq_right
    have hmode : Mode.ofBit ((0x1#4 ++ 0#3 ++ m.bit ++ p).getLsbD 8) = m := by
      rw [BitVec.getLsbD_append]; cases m <;> rfl
    simp only [CwRow.sendbyte, hpayload, hmode]
  | init o =>
    obtain rfl := Offered.frame.inj h
    refine .word (r := .init) (by simp [cwRows]) (Laws.Table.init o) (by decide) ?_
    simp only [CwRow.init, initOptions, encodeInit, getLsbD_zero_append_bit, getLsbD_succ_append_bit]
  | clear =>
    obtain rfl := Offered.frame.inj h
    exact .word (r := .clear) (by simp [cwRows]) Laws.Table.clear (by decide) rfl
  | home =>
    obtain rfl := Offered.frame.inj h
    exact .word (r := .home) (by simp [cwRows]) Laws.Table.home (by decide) rfl
  | goto row column =>
    obtain rfl := Offered.frame.inj h
    refine .word (r := .goto) (by simp [cwRows]) (Laws.Table.goto row column) (by decide) ?_
    have hword : 0x5#4 ++ row ++ column = 0x5#4 ++ (row ++ column) := BitVec.append_assoc
    obtain ⟨hrow, hcolumn⟩ := extract_fields 0x5#4 row column
    simp [CwRow.goto, hword, hrow, hcolumn]
  | setentry a b =>
    obtain rfl := Offered.frame.inj h
    exact .word (r := .setentry) (by simp [cwRows]) (Laws.Table.setentry a b) (by decide) (by revert a b; decide)
  | setdisplay a b c =>
    obtain rfl := Offered.frame.inj h
    exact .word (r := .setdisplay) (by simp [cwRows]) (Laws.Table.setdisplay a b c) (by decide)
      (by revert a b c; decide)
  | setmove a b =>
    obtain rfl := Offered.frame.inj h
    exact .word (r := .setmove) (by simp [cwRows]) (Laws.Table.setmove a b) (by decide) (by revert a b; decide)
  | loadglyphs t =>
    obtain rfl := Offered.frame.inj h
    simpa only [CwRow.loadglyphs, map_dataByte_encodeData] using
      ReadsAs.bytes (r := .loadglyphs) (by simp [cwRows]) hi (Laws.Table.loadglyphs t) (by decide)
  | writestring t =>
    obtain rfl := Offered.frame.inj h
    simpa only [CwRow.writestring, map_dataByte_encodeData] using
      ReadsAs.bytes (r := .writestring) (by simp [cwRows]) hi (Laws.Table.writestring t) (by decide)
  | _ => simp [encode] at h

theorem ReadsAs.decode {i : Instr} {words : List CmdWord} (h : ReadsAs i words) (rest : List CmdWord) :
    decode (.frame (words ++ rest)) = .instr i rest := by
  obtain ⟨cw, dws, rfl, hcount, hrow, hlegal⟩ := h
  exact (decodeFrame_row hcount hrow).trans (if_pos hlegal)

/-! ### Encoding a decoded frame -/

theorem encodeData_dataByte {dw : CmdWord} (h : dataWordLegal dw = true) : encodeData (dataByte dw) = dw := by
  have hzero : dw.extractLsb' 8 8 = 0#8 := eq_of_beq h
  simp only [encodeData, dataByte, ← hzero, BitVec.extractLsb'_append_extractLsb'_eq_extractLsb',
    BitVec.extractLsb'_eq_self]

theorem map_encodeData_dataByte {dws : List CmdWord} (h : dws.all dataWordLegal = true) :
    (dws.map dataByte).map encodeData = dws := by
  rw [List.map_map]
  exact (List.map_congr_left fun dw hdw => encodeData_dataByte (List.all_eq_true.mp h dw hdw)).trans dws.map_id

theorem append_lenField {cw : CmdWord} {n : Nat} (h : n = lenField cw) : opField cw ++ BitVec.ofNat 12 n = cw := by
  simp only [h, lenField, BitVec.ofNat_toNat, BitVec.setWidth_eq, opField,
    BitVec.extractLsb'_append_extractLsb'_eq_extractLsb', BitVec.extractLsb'_eq_self]

/-- A word whose reserved bits are 0 is the encoding of what its row reads from it. -/
theorem CwRow.encode_read {r : CwRow} {cw : CmdWord} {dws : List CmdWord} (hr : r ∈ cwRows) (h : r.row.hits cw = true)
    (hcount : dws.length = dataWordCount cw) (hlegal : dws.all dataWordLegal = true) :
    encode (r.read cw dws) = .frame (cw :: dws) := by
  have hdata := dataWordCount_of_row hr h
  have hnone (hop : ¬ (opField r.row.pattern = 0x9#4 ∨ opField r.row.pattern = 0xA#4)) : dws = [] :=
    List.eq_nil_of_length_eq_zero (by rw [hcount, hdata, if_neg hop])
  have join {s k t m : Nat} (h : t = s + k) : cw.extractLsb' t m ++ cw.extractLsb' s k = cw.extractLsb' s (m + k) :=
    BitVec.extractLsb'_append_extractLsb'_eq_extractLsb' h
  simp only [cwRows, List.mem_cons, List.not_mem_nil, or_false] at hr
  rcases hr with rfl | rfl | rfl | rfl | rfl | rfl | rfl | rfl | rfl | rfl
  · obtain ⟨hop, hzero⟩ := (rowSendbyte_hits cw).mp h
    rw [hnone (by decide)]
    simp only [CwRow.sendbyte, encode, ← hop, opField, ← hzero, bit_ofBit, bit_getLsbD, join,
      BitVec.extractLsb'_eq_self]
  · obtain ⟨hop, hzero⟩ := (rowInit_hits cw).mp h
    rw [hnone (by decide)]
    simp only [CwRow.init, initOptions, encode, encodeInit, ← hop, opField, ← hzero, bit_getLsbD, join,
      BitVec.extractLsb'_eq_self]
  · obtain ⟨hop, hzero⟩ := (rowClear_hits cw).mp h
    rw [hnone (by decide)]
    simp only [CwRow.clear, encode, ← hop, opField, ← hzero, join, BitVec.extractLsb'_eq_self]
  · obtain ⟨hop, hzero⟩ := (rowHome_hits cw).mp h
    rw [hnone (by decide)]
    simp only [CwRow.home, encode, ← hop, opField, ← hzero, join, BitVec.extractLsb'_eq_self]
  · have hop := (rowGoto_hits cw).mp h
    rw [hnone (by decide)]
    simp only [CwRow.goto, encode, ← hop, opField, join, BitVec.extractLsb'_eq_self]
  · obtain ⟨hop, hzero⟩ := (rowSetentry_hits cw).mp h
    rw [hnone (by decide)]
    simp only [CwRow.setentry, encode, ← hop, opField, ← hzero, bit_getLsbD, join,
      BitVec.extractLsb'_eq_self]
  · obtain ⟨hop, hzero⟩ := (rowSetdisplay_hits cw).mp h
    rw [hnone (by decide)]
    simp only [CwRow.setdisplay, encode, ← hop, opField, ← hzero, bit_getLsbD, join,
      BitVec.extractLsb'_eq_self]
  · obtain ⟨hop, hzero⟩ := (rowSetmove_hits cw).mp h
    rw [hnone (by decide)]
    simp only [CwRow.setmove, encode, ← hop, opField, ← hzero, bit_getLsbD, join,
      BitVec.extractLsb'_eq_self]
  · have hop := (rowLoadglyphs_hits cw).mp h
    have hlen : dws.length = lenField cw := hcount.trans hdata
    simp only [CwRow.loadglyphs, encode, ← hop, map_encodeData_dataByte hlegal, List.length_map, append_lenField hlen]
  · have hop := (rowWritestring_hits cw).mp h
    have hlen : dws.length = lenField cw := hcount.trans hdata
    simp only [CwRow.writestring, encode, ← hop, map_encodeData_dataByte hlegal, List.length_map, append_lenField hlen]

theorem CwRow.read_wellFormed {cw : CmdWord} {dws : List CmdWord} (h : dws.length = dataWordCount cw) :
    ∀ r ∈ cwRows, (r.read cw dws).wellFormed = true := by
  have hlen : dws.length ≤ 4095 := by
    rw [h, dataWordCount_eq]
    split
    · exact Nat.le_of_lt_succ (BitVec.isLt _)
    · exact Nat.zero_le _
  simp [cwRows, Instr.wellFormed, lengthFits, hlen]

/-! ### Command bytes and bring-up nibbles (R99 to R102) -/

/-- The byte of a row is read as that row. -/
theorem decodeByte_encode {i : Instr} {b : Byte} (h : encode i = .byte b) : decodeByte b = some i := by
  cases i with
  | lcdDisplayClear | lcdDisplayHome => obtain rfl := Offered.byte.inj h; decide
  | lcdEntryMode a s => obtain rfl := Offered.byte.inj h; revert a s; decide
  | lcdDisplayMode d c b => obtain rfl := Offered.byte.inj h; revert d c b; decide
  | lcdMoveMode v r => obtain rfl := Offered.byte.inj h; revert v r; decide
  | lcdFunctionSet w n f => obtain rfl := Offered.byte.inj h; revert w n f; decide
  | lcdCgramAddr a => obtain rfl := Offered.byte.inj h; revert a; decide
  | lcdDdramAddr a => obtain rfl := Offered.byte.inj h; revert a; decide
  | _ => simp [encode] at h

theorem decodeNibble_encode {i : Instr} {n : Nibble} (h : encode i = .nibble n) : decodeNibble n = some i := by
  cases i with
  | nibEightbit | nibFourbit => obtain rfl := Offered.nibble.inj h; decide
  | _ => simp [encode] at h

theorem encode_decodeByte {i : Instr} {b : Byte} (h : decodeByte b = some i) :
    encode i = .byte b ∧ i.wellFormed = true := by
  have hall : ∀ b : Byte, ∀ i ∈ decodeByte b, encode i = .byte b ∧ i.wellFormed = true := by decide
  exact hall b i h

theorem encode_decodeNibble {i : Instr} {n : Nibble} (h : decodeNibble n = some i) :
    encode i = .nibble n ∧ i.wellFormed = true := by
  have hall : ∀ n : Nibble, ∀ i ∈ decodeNibble n, encode i = .nibble n ∧ i.wellFormed = true := by decide
  exact hall n i h

theorem decode_byte {b : Byte} {i : Instr} {rest : List CmdWord} :
    decode (.byte b) = .instr i rest ↔ decodeByte b = some i ∧ rest = [] := by
  cases h : decodeByte b <;> simp [decode, h, eq_comm]

theorem decode_nibble {n : Nibble} {i : Instr} {rest : List CmdWord} :
    decode (.nibble n) = .instr i rest ↔ decodeNibble n = some i ∧ rest = [] := by
  cases h : decodeNibble n <;> simp [decode, h, eq_comm]

/-! ### Reserved frames (R91) -/

/-- The command words without a row are those R91 lists for their own bits. -/
theorem decodeWords_eq_none_iff_reserved {cw : CmdWord} {dws : List CmdWord} :
    decodeWords cw dws = none ↔ ReservedFrame cw [] := by
  have hop : ∀ op : BitVec 4, op = 0x0#4 ∨ 0xB#4 ≤ op ∨ op = 0x1#4 ∨ op = 0x2#4 ∨ op = 0x3#4 ∨ op = 0x4#4 ∨
    op = 0x5#4 ∨ op = 0x6#4 ∨ op = 0x7#4 ∨ op = 0x8#4 ∨ op = 0x9#4 ∨ op = 0xA#4 := by decide
  rw [decodeWords_eq_none_iff]
  rcases hop (opField cw) with h | h | h | h | h | h | h | h | h | h | h | h
  case inr.inl =>
    have hne (k : BitVec 4) (hk : k < 0xB#4) : opField cw ≠ k := fun he => absurd h (BitVec.not_le.mpr (he ▸ hk))
    simp [ReservedFrame, cwRows, h, hne, -Bool.not_eq_true]
  all_goals simp [ReservedFrame, cwRows, h, -Bool.not_eq_true]

/-- The frames R91 lists are those with no row and those with an illegal data word. -/
theorem reservedFrame_iff {cw : CmdWord} {dws : List CmdWord} (hcount : dws.length = dataWordCount cw) :
    ReservedFrame cw dws ↔ decodeWords cw dws = none ∨ dws.all dataWordLegal = false := by
  have hillegal : dws.all dataWordLegal = false ↔
      (opField cw = 0x9 ∨ opField cw = 0xA) ∧ ∃ dw ∈ dws, dw.extractLsb' 8 8 ≠ 0 := by
    by_cases hop : opField cw = 0x9#4 ∨ opField cw = 0xA#4
    · simp [hop, dataWordLegal]
    · rw [dataWordCount_eq, if_neg hop] at hcount
      simp [hop, List.eq_nil_of_length_eq_zero hcount]
  rw [hillegal, decodeWords_eq_none_iff_reserved]
  simp [ReservedFrame, or_assoc]

theorem decode_of_reserved {cw : CmdWord} {dws : List CmdWord} (hcount : dws.length = dataWordCount cw)
    (h : ReservedFrame cw dws) (rest : List CmdWord) :
    ∃ why, decode (.frame (cw :: (dws ++ rest))) = .reserved why rest := by
  have hcases := (reservedFrame_iff hcount).mp h
  cases hrow : decodeWords cw dws with
  | none => exact ⟨_, decodeFrame_reserved hcount hrow⟩
  | some i =>
    have hillegal : dws.all dataWordLegal = false := hcases.resolve_left (by simp [hrow])
    exact ⟨_, (decodeFrame_row hcount hrow).trans (if_neg (by simp [hillegal]))⟩

theorem decode_of_not_reserved {cw : CmdWord} {dws : List CmdWord} (hcount : dws.length = dataWordCount cw)
    (h : ¬ ReservedFrame cw dws) (rest : List CmdWord) :
    ∃ i, decode (.frame (cw :: (dws ++ rest))) = .instr i rest := by
  obtain ⟨hrow, hlegal⟩ := not_or.mp (mt (reservedFrame_iff hcount).mpr h)
  obtain ⟨i, hi⟩ := Option.ne_none_iff_exists'.mp hrow
  exact ⟨i, (decodeFrame_row hcount hi).trans (if_pos (by simpa using hlegal))⟩

theorem step_reserved {s : State} {r : Request} {others : List Request} {why : Reserved} {rest : List CmdWord}
    (hr : s.resetReq = false) (hb : s.busy = false) (hpending : s.pending = r :: others)
    (hdecode : decode r.offer = .reserved why rest) : step s = .next (s.takeRequest r others rest).refuseFrame := by
  simp [step, State.fetch, State.fetchRequest, hr, hb, hpending, hdecode]

end Sys2Proof.Machine

open Sys2Proof Sys2Proof.Machine

/-- Settles O2: the frame of an instruction is read by its own row, and its fields are the operands. -/
theorem decodeOfEncode : Obligations.DecodeOfEncode := by
  intro i hi
  refine ⟨?_, fun words rest h => (encode_readsAs hi h).decode rest⟩
  cases h : encode i with
  | frame words => rw [← words.append_nil]; exact (encode_readsAs hi h).decode []
  | byte b => exact decode_byte.mpr ⟨decodeByte_encode h, rfl⟩
  | nibble n => exact decode_nibble.mpr ⟨decodeNibble_encode h, rfl⟩

/-- Settles O3: a word of a row has no other bits than its `op`, zeros and the operands its row reads. -/
theorem encodeOfDecode : Obligations.EncodeOfDecode := by
  intro x i rest h
  cases x with
  | frame words =>
    obtain ⟨cw, dws, rfl, hcount, hrow, hlegal⟩ := decodeFrame_instr h
    obtain ⟨r, hr, hhit, rfl⟩ := decodeWords_eq_some_iff.mp hrow
    exact ⟨CwRow.read_wellFormed hcount r hr, .inl ⟨cw :: dws, CwRow.encode_read hr hhit hcount hlegal, rfl⟩⟩
  | byte b =>
    obtain ⟨hrow, hrest⟩ := decode_byte.mp h
    obtain ⟨hencode, hi⟩ := encode_decodeByte hrow
    exact ⟨hi, .inr ⟨hrest, hencode, by simp⟩⟩
  | nibble n =>
    obtain ⟨hrow, hrest⟩ := decode_nibble.mp h
    obtain ⟨hencode, hi⟩ := encode_decodeNibble hrow
    exact ⟨hi, .inr ⟨hrest, hencode, by simp⟩⟩

/-- Settles O4: R91's list is what has no row or an illegal data word. -/
theorem reservedFramesRefused : Obligations.ReservedFramesRefused := by
  intro s host others cw dws rest hr hb hcount hpending
  refine ⟨fun h => ?_, fun h => decode_of_not_reserved hcount h rest⟩
  obtain ⟨why, hdecode⟩ := decode_of_reserved hcount h rest
  rw [step_reserved hr hb hpending hdecode, State.refuseFrame, State.raise_eq, ← hb]
  rfl

/-- Settles O35: an idle block takes the oldest request. -/
theorem stepRunsDecoded : Obligations.StepRunsDecoded :=
  fun _ _ _ _ _ hr hb hpending hdecode => step_instr hr hb hpending hdecode

/-- Settles O1, by running the decoder. -/
theorem writtenWordsDecode : Obligations.WrittenWordsDecode := by
  unfold Obligations.WrittenWordsDecode
  decide
end

section
/-! # The output word, the composed bytes and the nibble split

Settles O5 to O8 (spec/30_encoding.md R94, R95, R97, R101). -/

namespace Sys2Proof.Machine

theorem Mode.rsLevel_eq (mode : Mode) : Mode.rsLevel mode = decide (mode = .data) := by cases mode <;> rfl

theorem Mode.rsLevel_injective {m₁ m₂ : Mode} (h : Mode.rsLevel m₁ = Mode.rsLevel m₂) : m₁ = m₂ := by
  cases m₁ <;> cases m₂ <;> simp_all [Mode.rsLevel]

/-- The pins that no signal is mapped to are low in every word (R95 (b)). -/
theorem pinLevel_outputWord_unmapped {p : PinMap} {k : Fin 8} (hk : k ∉ p.indices) (mode : Mode) (n : Nibble) :
    pinLevel (outputWord p mode n) k = false := by
  simp only [PinMap.indices, List.mem_cons, List.not_mem_nil, or_false, not_or] at hk
  obtain ⟨hrs, -, h0, h1, h2, h3⟩ := hk
  simp [pinLevel_outputWord, hrs, h0, h1, h2, h3]

/-- A word loses nothing: the panel reads the mode and the nibble back from it (R95 (c)). -/
theorem outputWord_injective {p : PinMap} (hp : p.Legal) {m₁ m₂ : Mode} {n₁ n₂ : Nibble}
    (h : outputWord p m₁ n₁ = outputWord p m₂ n₂) : m₁ = m₂ ∧ n₁ = n₂ := by
  have hlatch : (⟨Mode.rsLevel m₁, n₁⟩ : Latch) = ⟨Mode.rsLevel m₂, n₂⟩ := by
    rw [← panelLatch_outputWord hp, h, panelLatch_outputWord hp]
  obtain ⟨hmode, hnibble⟩ := Latch.mk.inj hlatch
  exact ⟨Mode.rsLevel_injective hmode, hnibble⟩

theorem outputWord_command_zero (p : PinMap) : outputWord p .command 0x0 = 0x00 := by
  simp [outputWord, drivePin, Mode.rsLevel]

theorem toNat_eq_nibbles (b : Byte) : b.toNat = (highNibble b).toNat * 16 + (lowNibble b).toNat := by
  have := b.isLt
  simp only [highNibble, lowNibble, BitVec.extractLsb'_toNat, Nat.shiftRight_eq_div_pow]
  omega

end Sys2Proof.Machine

open Sys2Proof Sys2Proof.Machine

/-- Settles O5: each drive sets the bit of its own pin alone. -/
theorem outputWordBits : Obligations.OutputWordBits := by
  intro p mode n k
  rw [pinLevel_outputWord, Mode.rsLevel_eq]
  simp only [Bool.or_eq_true, Bool.and_eq_true, decide_eq_true_eq, or_assoc, and_comm]

/-- Settles O6: the pins of a legal map are distinct, so each signal can be read back from its own. -/
theorem outputWordFaithful : Obligations.OutputWordFaithful := fun p hp =>
  ⟨outputWord_enLow hp, fun mode n _ hk => pinLevel_outputWord_unmapped hk mode n,
    fun mode n => by rw [panelLatch_outputWord hp, Mode.rsLevel_eq],
    fun _ _ _ _ h => outputWord_injective hp h, outputWord_command_zero p⟩

/-- Settles O7: the bases and flag bits are in different positions, for each value of the flags and of the address. -/
theorem composedBytes : Obligations.ComposedBytes :=
  ⟨by decide, by decide, by decide, by decide, by decide, by decide⟩

/-- Settles O8: the nibbles are quotient and remainder by 16. -/
theorem nibbleSplit : Obligations.NibbleSplit := ⟨toNat_eq_nibbles, by decide, by decide⟩

end
section
/-! # Command bytes and bring-up nibbles by themselves

Settles O27 and O28 (spec/30_encoding.md R99 to R102; spec/40_nibble_transmitter.md R122, R124): what an operation
leaves that ran with nothing but `ok`, and what the port and the panel see of a byte and of a lone nibble. -/

namespace Sys2Proof.Machine

variable {s : State}

/-! ### An operation that runs to its end (R30, R120, R236) -/

/-- What the end with status `Ok` makes of `ctrl_sync` (R34). -/
theorem State.finish_ctrlSync {i : Instr} (hop : s.op = some i) (hi : isInit i = false) :
    s.finish.ctrlSync = if losesPanel i then .unknown else s.ctrlSync := by
  rw [State.finish, hop, State.complete_ctrlSync]
  cases hl : losesPanel i <;> simp [State.panelAfter, hl, hi]

/-- What the end leaves of the records, the port and OUT. -/
theorem State.finish_records (s : State) : s.finish.latched = s.latched ∧ s.finish.elapsed = s.elapsed ∧
    s.finish.out = s.out ∧ s.finish.draws = s.draws ∧ s.finish.inFlight = s.inFlight := by
  obtain ⟨l, c, hfin⟩ := s.finish_eq
  rw [hfin]
  exact ⟨rfl, rfl, rfl, rfl, rfl⟩

/-- An operation outside INIT with nothing but `ok`: its list says all of it but the latch events and OUT, which are those of
`State.okRun`. -/
theorem exec_ranOk {i : Instr} {ops : List MicroOp} {n us : Nat} {events : List PortEvent} {latches : List Latch}
    {out : Byte} (hb : s.busy = false) (hr : refusalOf i s = none) (hi : isInit i = false)
    (hlist : expand s.cfg i = ops) (hcount : portCount ops = n) (hport : PortOk n s)
    (hevents : traceOf s.cfg.outReg ops = events) (hus : us ≤ leastWait ops) (hlatched : (State.okRun ops (s.start i)).latched = s.latched ++ latches)
    (hout : (State.okRun ops (s.start i)).out = out) :
    ∃ t, exec i s = .next t ∧ RanOk s t n events latches us out ∧ FlagsKept s t ∧
      t.ctrlSync = if losesPanel i then .unknown else s.ctrlSync := by
  subst hlist hcount hevents
  have ht := exec_ok hb hr hport
  obtain ⟨hidle, hreplies, htrace, hkept, hanswers, -⟩ := exec_ok_leaves hb hr hport ht
  have helapsed := State.okRun_elapsed (ops := expand s.cfg i) (s := s.start i) rfl
  obtain ⟨-, hbegun⟩ := State.okRun_trace (ops := expand s.cfg i) (s := s.start i) rfl
  obtain ⟨hflight, -⟩ := Bool.or_eq_false_iff.mp hbegun
  obtain ⟨-, hdraws⟩ := State.okRun_answers (expand s.cfg i) (s.start i)
  obtain ⟨-, -, hop, -, -, hsync, -⟩ := State.okRun_kept (expand s.cfg i) (s.start i)
  have hend := State.finish_ctrlSync hop hi
  rw [hsync] at hend
  obtain ⟨hflatched, hfelapsed, hfout, hfdraws, hfflight⟩ := (State.okRun (expand s.cfg i) (s.start i)).finish_records
  exact ⟨_, ht, ⟨htrace, hflatched.trans hlatched, hfelapsed ▸ (Nat.add_le_add_left hus _).trans helapsed,
    hfout.trans hout, hreplies, hanswers, hfdraws.trans hdraws, hidle, hfflight.trans hflight, hkept⟩,
    exec_flagsKept hi ht, hend⟩

/-! ### A byte and a lone nibble (R122, R124, R128) -/

/-- What a byte leaves in the latched stream and in OUT. -/
theorem State.okRun_sendByte {mode : Mode} {b : Byte} (hp : s.cfg.pinmap.Legal) (hbegun : s.begun = false) :
    (State.okRun (sendByte s.cfg mode b) s).latched =
        s.latched ++ (strayLatch s ⟨Mode.rsLevel mode, highNibble b⟩ ++ byteLatches mode b) ∧
      (State.okRun (sendByte s.cfg mode b) s).out = outputWord s.cfg.pinmap mode (lowNibble b) := by
  rw [sendByte, State.okRun_append]
  have hlow (n : Nibble) := outputWord_enLow hp mode n
  obtain ⟨-, hhigh, -, hbegun', hcfg, -⟩ := State.okRun_sendNibble (n := highNibble b) (dHi := s.cfg.timing.tEn)
    (dLo := s.cfg.timing.tEn) rfl (hlow _) hbegun
  have hen := State.okRun_sendNibble_enLow (n := highNibble b) (dHi := s.cfg.timing.tEn) (dLo := s.cfg.timing.tEn)
    (hlow _) hbegun
  generalize State.okRun (sendNibble s.cfg.pinmap mode (highNibble b) _ _) s = t at hhigh hbegun' hcfg hen ⊢
  obtain ⟨hout, hlatched, -⟩ := State.okRun_sendNibble (s := t) (n := lowNibble b) (dHi := s.cfg.timing.tEn)
    (dLo := s.cfg.timing.tEn) rfl (by rw [hcfg]; exact hlow _) hbegun'
  rw [hcfg] at hout hlatched
  have hstray (e : Latch) : strayLatch t e = [] := by rw [strayLatch, hen]; rfl
  refine ⟨?_, hout⟩
  rw [hlatched, hhigh, hstray, panelLatch_outputWord hp, panelLatch_outputWord hp]
  simp [byteLatches]

/-- What a lone nibble leaves in the latched stream and in OUT. -/
theorem State.okRun_bringUpPulse {n : Nibble} {wait : Nat} (hp : s.cfg.pinmap.Legal) (hbegun : s.begun = false) :
    (State.okRun (bringUpPulse s.cfg n wait) s).latched = s.latched ++ (strayLatch s ⟨false, n⟩ ++ [pulseLatch n]) ∧
      (State.okRun (bringUpPulse s.cfg n wait) s).out = outputWord s.cfg.pinmap .command n := by
  obtain ⟨hout, hlatched, -⟩ := State.okRun_sendNibble (mode := .command) (n := n) (dHi := s.cfg.timing.tEn)
    (dLo := wait) rfl (outputWord_enLow hp ..) hbegun
  rw [panelLatch_outputWord hp, List.append_assoc] at hlatched
  exact ⟨hlatched, hout⟩

/-- A wait touches neither the latched stream nor OUT. -/
theorem State.okRun_dly (d : Nat) :
    (State.okRun [.dly d] s).latched = s.latched ∧ (State.okRun [.dly d] s).out = s.out := by
  simp [State.okStep]

theorem isFunctionSet_iff (b : Byte) : isFunctionSet b = true ↔ 0x20 ≤ b ∧ b ≤ 0x3F := decide_eq_true_iff

theorem losesPanel_of_functionSet {i : Instr} {b : Byte} (h : decodeByte b = some i) (hset : isFunctionSet b = true) :
    losesPanel i = true := by
  have hall : ∀ b : Byte, isFunctionSet b = true → ∀ i ∈ decodeByte b, losesPanel i = true := by decide
  exact hall b hset i h

/-- An LCD8 row loses the panel if and only if its byte is a function set (R271). -/
theorem losesPanel_eq_isFunctionSet {i : Instr} {b : Byte} (h : encode i = .byte b) :
    losesPanel i = isFunctionSet b := by
  cases hset : isFunctionSet b with
  | false => exact losesPanel_encode h hset
  | true => exact losesPanel_of_functionSet (decodeByte_encode h) hset

/-- The settle behind a byte is the only difference between its rows. -/
theorem expandRow_events {i : Instr} {b : Byte} (c : Setup) (h : encode i = .byte b) :
    traceOf c.outReg (expand c i) = byteEvents c .command b ++
      (if i = .lcdDisplayClear ∨ i = .lcdDisplayHome then [.wait c.timing.tClear] else []) := by
  rcases expand_of_encode c h with ⟨hsettled, hlist⟩ | ⟨hclear, hhome, hlist⟩
  · rw [hlist, sendSettled, traceOf_append, traceOf_sendByte, if_pos hsettled]; rfl
  · simp [hlist, traceOf_sendByte, hclear, hhome]

theorem leastWait_sendByte (c : Setup) (mode : Mode) (b : Byte) : leastWait (sendByte c mode b) = 4 * c.timing.tEn := by
  simp only [sendByte, sendNibble, pulseEN, leastWait, List.cons_append, List.nil_append]
  omega

theorem expandRow_leastWait {i : Instr} {b : Byte} (c : Setup) (h : encode i = .byte b) :
    4 * c.timing.tEn ≤ leastWait (expand c i) := by
  rcases expand_of_encode c h with ⟨-, hlist⟩ | ⟨-, -, hlist⟩
  · rw [hlist, sendSettled, leastWait_append, leastWait_sendByte]; exact Nat.le_add_right ..
  · rw [hlist, leastWait_sendByte]

theorem State.okRun_expandRow {i : Instr} {b : Byte} (h : encode i = .byte b) (hp : s.cfg.pinmap.Legal)
    (hbegun : s.begun = false) :
    (State.okRun (expand s.cfg i) s).latched =
        s.latched ++ (strayLatch s ⟨false, highNibble b⟩ ++ byteLatches .command b) ∧
      (State.okRun (expand s.cfg i) s).out = outputWord s.cfg.pinmap .command (lowNibble b) := by
  have hbyte := State.okRun_sendByte (mode := .command) (b := b) hp hbegun
  rcases expand_of_encode s.cfg h with ⟨-, hlist⟩ | ⟨-, -, hlist⟩ <;> rw [hlist]
  · obtain ⟨hlatched, hout⟩ := State.okRun_dly (s := State.okRun (sendByte s.cfg .command b) s) s.cfg.timing.tClear
    rw [sendSettled, State.okRun_append, hlatched, hout]
    exact hbyte
  · exact hbyte

/-- A NIB4 row: one pulse, and then its own wait (R102, R154). -/
theorem exec_pulse {i : Instr} {n : Nibble} {wait : Nat} (hb : s.busy = false) (hr : refusalOf i s = none)
    (hi : isInit i = false) (hl : losesPanel i = true) (hp : s.cfg.pinmap.Legal) (hport : PortOk 3 s)
    (hlist : expand s.cfg i = bringUpPulse s.cfg n wait) :
    ∃ t, exec i s = .next t ∧
      RanOk s t 3 (pulseEvents s.cfg n wait) (strayLatch s ⟨false, n⟩ ++ [pulseLatch n]) (s.cfg.timing.tEn + wait)
        (outputWord s.cfg.pinmap .command n) ∧
      FlagsKept s t ∧ t.ctrlSync = .unknown := by
  obtain ⟨hlatched, hout⟩ := State.okRun_bringUpPulse (s := s.start i) (n := n) (wait := wait) hp rfl
  have hrow := exec_ranOk (us := s.cfg.timing.tEn + wait) hb hr hi hlist rfl hport rfl (Nat.le_refl _) hlatched hout
  rwa [hl] at hrow

end Sys2Proof.Machine

open Sys2Proof Sys2Proof.Machine

/-- Settles O27: the list of a row is its byte, the clear and the home with their settle. -/
theorem commandBytesComplete : Obligations.CommandBytesComplete := by
  intro s i b hb hready hp hport hbyte
  have hrefusal : refusalOf i s = none :=
    refusalOf_guarded hready fun row column hi => by subst hi; simp [encode] at hbyte
  obtain ⟨hlatched, hout⟩ := State.okRun_expandRow (s := s.start i) hbyte hp rfl
  obtain ⟨t, ht, hran, hflags, hsync⟩ := exec_ranOk hb hrefusal (isInit_encode hbyte) rfl
    (portCount_expand_encode s.cfg hbyte) hport (expandRow_events s.cfg hbyte) (expandRow_leastWait s.cfg hbyte)
    hlatched hout
  refine ⟨t, ht, hran, hflags, ?_⟩
  simp only [hsync, losesPanel_eq_isFunctionSet hbyte, isFunctionSet_iff]

/-- Settles O28: both rows are one pulse, each with its own wait. -/
theorem bringUpNibblesComplete : Obligations.BringUpNibblesComplete := by
  intro s hb hready hp hport
  have admitted {i : Instr} := refusalOf_guarded (i := i) hready
  exact ⟨exec_pulse hb (admitted (by simp)) rfl rfl hp hport rfl,
    exec_pulse hb (admitted (by simp)) rfl rfl hp hport rfl⟩

end

section
/-! # The commands of a host on the panel

Settles O54 (spec/30_encoding.md R98; spec/42_display_commands.md R181 to R186): the list of a command is that of a
command byte, or of a mode byte and then the clear. -/

namespace Sys2Proof.Machine

variable {s : State} {i j : Instr} {b : Byte}

/-- What the byte of row `i` does to the controller, its settle over (R98, R191). -/
def Lcd.obeyed (k tClear : Nat) (i : Instr) (l : Lcd) : Lcd := { l.obey k tClear i with owed := 0 }

theorem Lcd.obeyed_inStep {l : Lcd} {k t : Nat} (hbyte : encode i = .byte b) (hset : isFunctionSet b = false)
    (h : l.inStep) : (l.obeyed k t i).inStep :=
  Lcd.obey_inStep (readCommand_encode hbyte hset) hset h

section
variable (hb : s.busy = false) (hr : refusalOf j s = none) (hl : losesPanel j = false) (hi : isInit j = false)
  (hframed : Framed s) (hbyte : encode i = .byte b) (hset : isFunctionSet b = false)
include hb hr hl hi hframed hbyte hset

/-- An operation whose list is that of a row does to the panel what the row does. -/
theorem exec_asRow (hport : PortOk 6 s) (hlist : expand s.cfg j = expand s.cfg i) :
    ∃ t, exec j s = .next t ∧ Framed t ∧ t.lcd = s.lcd.obeyed (s.draws + 6) s.cfg.timing.tClear i := by
  have hstart := PanelAt.start j hframed
  obtain ⟨hp, -, hin⟩ := hframed
  have hrow := hstart.expandRow hp hin hbyte hset
  rw [← hlist] at hrow
  exact exec_inStep hb hr hl hi (by rw [hlist, portCount_expand_encode s.cfg hbyte]; exact hport) hp
    (Lcd.obeyed_inStep hbyte hset hin) hrow

/-- An operation whose list is that of a row and then the clear does to the panel what the two do. -/
theorem exec_asRowThenClear (hport : PortOk 12 s)
    (hlist : expand s.cfg j = expand s.cfg i ++ expand s.cfg .lcdDisplayClear) :
    ∃ t, exec j s = .next t ∧ Framed t ∧
      t.lcd = (s.lcd.obeyed (s.draws + 6) s.cfg.timing.tClear i).obeyed (s.draws + 12) s.cfg.timing.tClear
        .lcdDisplayClear := by
  have hstart := PanelAt.start j hframed
  obtain ⟨hp, -, hin⟩ := hframed
  have hin' : (s.lcd.obeyed (s.draws + 6) s.cfg.timing.tClear i).inStep := Lcd.obeyed_inStep hbyte hset hin
  have hclear : isFunctionSet 0x01 = false := by decide
  have hboth := (hstart.expandRow hp hin hbyte hset).expandRow (i := .lcdDisplayClear) hp hin' rfl hclear
  rw [← State.okRun_append, ← hlist] at hboth
  have hcount : portCount (expand s.cfg j) = 12 := by
    rw [hlist, portCount_append, portCount_expand_encode s.cfg hbyte]; rfl
  exact exec_inStep hb hr hl hi (by rw [hcount]; exact hport) hp
    (Lcd.obeyed_inStep rfl hclear hin') hboth

end

/-- The address of a place of the geometry is in DDRAM (R183, R188). -/
theorem gotoAddress_lt {g : Geometry} {row : BitVec 4} {column : BitVec 8} (hg : g.Legal) (hrow : row.toNat < g.rows)
    (hcolumn : column.toNat < g.columns) : gotoAddress g row column < 128 := by
  obtain ⟨-, -, -, hlength, hfits⟩ := hg
  have hrow' : row.toNat < g.rowStart.length := hlength ▸ hrow
  have hstart := hfits _ (List.getElem_mem hrow')
  rw [gotoAddress, rowStartOf, ← List.getElem_eq_getD (h := hrow')]
  omega

/-- GOTO sends the byte of the address row. -/
theorem expand_goto {row : BitVec 4} {column : BitVec 8} {c : Setup} (h : gotoAddress c.geom row column < 128) :
    expand c (.goto row column) = expand c (.lcdDdramAddr (BitVec.ofNat 7 (gotoAddress c.geom row column))) := by
  simp only [expand, expandGoto, expandLcdDdramAddr, BitVec.toNat_ofNat, Nat.mod_eq_of_lt h]

end Sys2Proof.Machine

open Sys2Proof Sys2Proof.Machine

/-- Settles O54: each command is its row, or its row and then the clear, and `Lcd.obey` says what a row does. -/
theorem commandsOnPanel : Obligations.CommandsOnPanel := by
  intro s hb hready hframed hport
  have hfirst : PortOk 6 s := (hport.split (m := 6) (n := 6) (t := { s with answers := s.answers.drop 6 }) rfl rfl).1
  have admitted {j : Instr} := refusalOf_guarded (i := j) hready
  have hin : s.lcd = { s.lcd with regs := { s.lcd.regs with half := none }, owed := 0 } := by
    obtain ⟨-, -, hin⟩ := hframed
    exact Lcd.inStep_eq hin
  refine ⟨?_, ?_, fun row column hg hrow hcolumn => ?_, fun a sh => ?_, fun d c b => ?_, fun v r => ?_⟩
  · obtain ⟨t, ht, hf, hlcd⟩ := exec_asRow (i := .lcdDisplayClear) (j := .clear) hb (admitted (by simp)) rfl rfl
      hframed rfl (by decide) hfirst rfl
    exact ⟨t, ht, hf, by rw [hlcd]; rfl, by rw [hlcd]; rfl, by rw [hlcd, hin]; rfl⟩
  · obtain ⟨t, ht, hf, hlcd⟩ := exec_asRow (i := .lcdDisplayHome) (j := .home) hb (admitted (by simp)) rfl rfl
      hframed rfl (by decide) hfirst rfl
    exact ⟨t, ht, hf, by rw [hlcd]; rfl, by rw [hlcd]; rfl, by rw [hlcd, hin]; rfl⟩
  · have hlist := expand_goto (gotoAddress_lt hg hrow hcolumn)
    obtain ⟨t, ht, hf, hlcd⟩ := exec_asRow hb (refusalOf_goto hready hrow hcolumn) rfl rfl hframed rfl
      (by rw [← ddramByte_eq]; exact ddramByte_notFunctionSet _) hfirst hlist
    exact ⟨t, ht, hf, by rw [hlcd]; rfl, by rw [hlcd]; rfl, by rw [hlcd, hin]; rfl⟩
  · obtain ⟨t, ht, hf, hlcd⟩ := exec_asRowThenClear (i := .lcdEntryMode a sh) (j := .setentry a sh) hb
      (admitted (by simp)) rfl rfl hframed rfl (by rw [← entryByte_eq]; exact entryByte_notFunctionSet ..) hport rfl
    exact ⟨t, ht, hf, by rw [hlcd]; rfl, by rw [hlcd]; rfl, by rw [hlcd, hin]; rfl⟩
  · obtain ⟨t, ht, hf, hlcd⟩ := exec_asRowThenClear (i := .lcdDisplayMode d c b) (j := .setdisplay d c b) hb
      (admitted (by simp)) rfl rfl hframed rfl (by rw [← displayByte_eq]; exact displayByte_notFunctionSet ..) hport rfl
    exact ⟨t, ht, hf, by rw [hlcd]; rfl, by rw [hlcd]; rfl, by rw [hlcd, hin]; rfl⟩
  · obtain ⟨t, ht, hf, hlcd⟩ := exec_asRowThenClear (i := .lcdMoveMode v r) (j := .setmove v r) hb (admitted (by simp))
      rfl rfl hframed rfl (by rw [← moveByte_eq]; exact moveByte_notFunctionSet ..) hport rfl
    refine ⟨t, ht, hf, by rw [hlcd]; rfl, ?_, ?_⟩
    · rw [hlcd]; cases v <;> rfl
    · rw [hlcd, hin]; cases v <;> rfl

end

section
/-! # The NibbleTransmitter, and a fault in any instruction

Settles O11, O12 and O31 (spec/40_nibble_transmitter.md R120 to R128; spec/60_exceptions.md R221 to R230): `SendByte`
written out, SENDBYTE with nothing but `ok`, and where a faulting primitive leaves the block. -/

namespace Sys2Proof.Machine

variable {s : State}

/-- The function-set payloads of SENDBYTE, the ones that make `ctrl_sync` Unknown (R271). -/
theorem losesPanel_sendbyte (payload : Byte) (mode : Mode) :
    losesPanel (.sendbyte payload mode) = true ↔ mode = .command ∧ 0x20 ≤ payload ∧ payload ≤ 0x3F := by
  rw [losesPanel, Bool.and_eq_true, decide_eq_true_iff, isFunctionSet_iff]

/-- The part of a list that ends with its primitive number `k`, counted from 0, has `k + 1` primitives. -/
theorem portCount_cutAt {k : Nat} {ops : List MicroOp} (h : k < portCount ops) : portCount (cutAt k ops) = k + 1 := by
  obtain ⟨done, p, later, -, hcount, hcut⟩ := exists_port_split h
  rw [hcut, portCount_append, hcount]; rfl

/-- Where the rest of an operation ends when its primitive number `k` faults, whatever the flag and the milestone are:
`k + 1` answers are used up, and the status is `BusFault` (R126, R230). -/
theorem State.resume_fault_ends {k : Nat} (hflight : FlightInv s) (hk : k < portCount s.rest)
    (h : PortThen k .fault s) :
    s.resume.trace = s.trace ++ (traceOf s.cfg.outReg (cutAt k s.rest)).drop s.begun.toNat ∧
      s.resume.replies = s.replies ++ [⟨s.issuer, .busFault⟩] ∧ s.resume.ctrlSync = .unknown ∧
      s.resume.busy = false ∧ s.resume.inFlight = false ∧ s.resume.answers = s.answers.drop (k + 1) ∧
      SurroundingsKept s s.resume := by
  obtain ⟨done, p, later, hrest, hcut, hanswer, hrun⟩ := h.reaches hk
  rw [State.runList_port_fault _ hanswer, State.abort_eq] at hrun
  have hcount : portCount done + 1 = k + 1 := by
    rw [← portCount_cutAt hk, hcut, portCount_append]; rfl
  obtain ⟨hanswers, -⟩ := State.okRun_answers done s
  obtain ⟨⟨⟨-, -, -, hissuer⟩, hreset⟩, -, -, -, -, -, hreplies, -⟩ := State.okRun_kept done s
  refine ⟨?_, by simp [hrun, hreplies, hissuer], by rw [hrun], by rw [hrun], by rw [hrun]; rfl, ?_,
    State.runOps_worldKept s.rest s, by simp [hrun, hreset]⟩
  · rw [hcut, ← hflight.startCall_trace hrest, hrun]; rfl
  · rw [← hcount, ← List.tail_drop, ← hanswers, hrun]; simp

end Sys2Proof.Machine

open Sys2Proof Sys2Proof.Machine

/-- Settles O31: the admitted operation has its whole list before it, and only INIT's list writes the flag. -/
theorem busFaultEndsAnyInstruction : Obligations.BusFaultEndsAnyInstruction := by
  intro i s k hb hr hk h
  have ht := exec_admitted hb hr
  obtain ⟨htrace, hreplies, hsync, hidle, hflight, hanswers, hkept⟩ :=
    State.resume_fault_ends (FlightInv.start i s) hk h
  exact ⟨_, ht, htrace, hreplies, hsync, hidle, hflight, hanswers, hkept, fun hi => exec_flagsKept hi ht⟩

/-- Settles O12: the guard admits SENDBYTE, and `State.okRun_sendByte` says what its list does to the port and the panel. -/
theorem sendbyteCompletes : Obligations.SendbyteCompletes := by
  intro s payload mode hb hready hp hport
  obtain ⟨hlatched, hout⟩ :=
    State.okRun_sendByte (s := s.start (.sendbyte payload mode)) (mode := mode) (b := payload) hp rfl
  obtain ⟨t, ht, hran, hflags, hsync⟩ := exec_ranOk (i := .sendbyte payload mode) hb
    (refusalOf_guarded hready (by simp)) rfl rfl
    (portCount_sendByte s.cfg mode payload) hport (traceOf_sendByte ..) (leastWait_sendByte ..).ge hlatched hout
  refine ⟨t, ht, hran, hflags, ?_⟩
  simp only [hsync, losesPanel_sendbyte]

/-- Settles O11: the ten micro-operations and their counts are read off the list, its least time is `leastWait_sendByte`. -/
theorem sendByteList : Obligations.SendByteList := by
  intro c mode b
  have hwait := leastWait_sendByte c mode b
  exact ⟨rfl, rfl, rfl, rfl, rfl, hwait, fun hsource => by rw [hwait, hsource]⟩

end

section
/-! # What INIT does

Settles O13, O14 and O16 (spec/41_init_sequencer.md R152 to R162): the counts of INIT's list, what it puts on the port and
before the panel with nothing but `ok`, and what it leaves. -/

namespace Sys2Proof.Machine

variable {c : Setup} {s : State} {o : InitOptions} {as bs ops : List MicroOp} {es fs : List Latch} {v w : Byte}

/-! ### What the panel latches of a list (R35, R128) -/

/-- From any state with EN low and nothing begun, `ops` with nothing but `ok` adds `es` to the latched stream and leaves
`v`, a word with EN low, in OUT. -/
def Latches (c : Setup) (ops : List MicroOp) (es : List Latch) (v : Byte) : Prop :=
  pinLevel v c.pinmap.en = false ∧ ∀ s : State, s.cfg = c → s.begun = false → EnLow s →
    (State.okRun ops s).latched = s.latched ++ es ∧ (State.okRun ops s).out = v

theorem State.okRun_cfg (ops : List MicroOp) (s : State) : (State.okRun ops s).cfg = s.cfg := by
  obtain ⟨⟨⟨-, hcfg, -⟩, -⟩, -⟩ := State.okRun_kept ops s
  exact hcfg

theorem Latches.append (ha : Latches c as es v) (hb : Latches c bs fs w) : Latches c (as ++ bs) (es ++ fs) w := by
  obtain ⟨hlow, hfirst⟩ := ha
  obtain ⟨hlow', hsecond⟩ := hb
  refine ⟨hlow', fun s hcfg hbegun hen => ?_⟩
  obtain ⟨hlatched, hout⟩ := hfirst s hcfg hbegun hen
  obtain ⟨-, hbegun'⟩ := State.okRun_trace (ops := as) hbegun
  have hcfg' := (State.okRun_cfg as s).trans hcfg
  obtain ⟨hlatched', hout'⟩ := hsecond _ hcfg' hbegun' (by rw [EnLow, hcfg', hout]; exact hlow)
  rw [State.okRun_append, hlatched', hlatched, List.append_assoc]
  exact ⟨rfl, hout'⟩

/-- Only a primitive drives OUT. -/
theorem Latches.quiet (h : Latches c ops es v) {m : MicroOp} (hm : m.isPort = false) : Latches c (ops ++ [m]) es v := by
  obtain ⟨hlow, hrun⟩ := h
  refine ⟨hlow, fun s hcfg hbegun hen => ?_⟩
  have hops := hrun s hcfg hbegun hen
  cases m with
  | port p => simp [MicroOp.isPort] at hm
  | dly d => simpa [State.okRun_append, State.okStep] using hops
  | st x => simpa [State.okRun_append, State.okStep] using hops

theorem Latches.st (h : Latches c ops es v) (x : StateWrite) : Latches c (ops ++ [.st x]) es v := h.quiet rfl

theorem Latches.dly (h : Latches c ops es v) (d : Nat) : Latches c (ops ++ [.dly d]) es v := h.quiet rfl

theorem strayLatch_enLow (h : EnLow s) (e : Latch) : strayLatch s e = [] := by rw [strayLatch, h]; rfl

theorem latches_sendByte (hp : c.pinmap.Legal) (mode : Mode) (b : Byte) :
    Latches c (sendByte c mode b) (byteLatches mode b) (outputWord c.pinmap mode (lowNibble b)) := by
  refine ⟨outputWord_enLow hp .., fun s hcfg hbegun hen => ?_⟩
  subst hcfg
  simpa [strayLatch_enLow hen] using State.okRun_sendByte (mode := mode) (b := b) hp hbegun

theorem latches_bringUpPulse (hp : c.pinmap.Legal) (n : Nibble) (wait : Nat) :
    Latches c (bringUpPulse c n wait) [pulseLatch n] (outputWord c.pinmap .command n) := by
  refine ⟨outputWord_enLow hp .., fun s hcfg hbegun hen => ?_⟩
  subst hcfg
  simpa [strayLatch_enLow hen] using State.okRun_bringUpPulse (n := n) (wait := wait) hp hbegun

/-! ### The latched stream of INIT (R162) -/

theorem latches_bringUp (hp : c.pinmap.Legal) :
    Latches c (bringUp c) [pulseLatch 0x3, pulseLatch 0x3, pulseLatch 0x3, pulseLatch 0x2]
      (outputWord c.pinmap .command 0x2) :=
  (latches_bringUpPulse hp 0x3 _).st _ |>.append (latches_bringUpPulse hp 0x3 _) |>.st _
    |>.append (latches_bringUpPulse hp 0x3 _) |>.st _ |>.append (latches_bringUpPulse hp 0x2 _)

/-- The list behind the idle word: four pulses and seven bytes. -/
theorem latches_bringUp_applySettings (hp : c.pinmap.Legal) (o : InitOptions) :
    Latches c (bringUp c ++ applySettings c o) (initLatches c o) (outputWord c.pinmap .command 0x1) := by
  have hbyte := latches_sendByte hp .command
  simp only [applySettings, addrReset, clearSeq, sendSettled, ← List.append_assoc]
  exact latches_bringUp hp
    |>.append (hbyte (functionByte o.dataWidth o.lineCount o.font)) |>.st _
    |>.append (hbyte (displayByte false false false)) |>.st _
    |>.append (hbyte (entryByte o.autoIncrement o.autoShift)) |>.st _
    |>.append (hbyte (displayByte o.displayOn o.cursorOn o.blinkOn))
    |>.append (hbyte (moveByte o.moveMode o.moveDirection)) |>.st _
    |>.append (hbyte (ddramByte (rowStartOf c.geom 0)))
    |>.append (hbyte Config.lcdc.displayClear) |>.dly _ |>.st _

/-- INIT's list up to the power-on wait (R152, R153). -/
def initFront (c : Setup) : List MicroOp := [.st (.initialized false), reach .unpowered] ++ forceIdle c

theorem expandInit_eq_front (c : Setup) (o : InitOptions) : expandInit c o =
    initFront c ++ (bringUp c ++ applySettings c o ++ [.st (.initState .ready)] ++ [.st (.initialized true)]) := by
  simp [expandInit, initFront, reach]

/-- With EN high before it, the panel latches the pair that the idle word shows (R153, R262). -/
theorem State.okRun_initFront (c : Setup) (s : State) :
    (State.okRun (initFront c) s).latched = s.latched ++ strayLatch s ⟨false, 0x0⟩ ∧
      (State.okRun (initFront c) s).out = 0x00 := by
  have hlow (k : Fin 8) : pinLevel 0#8 k = false := by simp [pinLevel]
  have hpair : panelLatch s.cfg.pinmap 0#8 = ⟨false, 0x0⟩ := panelLatch_zero _
  cases hen : pinLevel s.out s.cfg.pinmap.en <;>
    simp [initFront, forceIdle, reach, State.okStep, State.callOk, State.drive, Primitive.result, strayLatch, hen, hlow,
      hpair]

/-- INIT's list, from any state with nothing begun: the idle word brings EN low, and the rest latches its own pairs. -/
theorem State.okRun_expandInit (hp : s.cfg.pinmap.Legal) (hbegun : s.begun = false) (o : InitOptions) :
    (State.okRun (expandInit s.cfg o) s).latched = s.latched ++ (strayLatch s ⟨false, 0x0⟩ ++ initLatches s.cfg o) ∧
      (State.okRun (expandInit s.cfg o) s).out = outputWord s.cfg.pinmap .command 0x1 := by
  obtain ⟨hidle, hout⟩ := State.okRun_initFront s.cfg s
  obtain ⟨-, hbegun'⟩ := State.okRun_trace (ops := initFront s.cfg) hbegun
  have hcfg := State.okRun_cfg (initFront s.cfg) s
  rw [expandInit_eq_front, State.okRun_append]
  generalize State.okRun (initFront s.cfg) s = t at hidle hout hbegun' hcfg ⊢
  have hen : EnLow t := by rw [EnLow, hout]; simp [pinLevel]
  obtain ⟨-, hrest⟩ := ((latches_bringUp_applySettings hp o).st (.initState .ready)).st (.initialized true)
  obtain ⟨hlatched, hlast⟩ := hrest t hcfg hbegun' hen
  rw [hidle] at hlatched
  exact ⟨hlatched.trans (List.append_assoc ..), hlast⟩

/-! ### The port trace, the waits and the counts of INIT's list (R162) -/

theorem traceOf_bringUpPulse (c : Setup) (n : Nibble) (wait : Nat) :
    traceOf c.outReg (bringUpPulse c n wait) = pulseEvents c n wait := rfl

theorem traceOf_expandInit (c : Setup) (o : InitOptions) : traceOf c.outReg (expandInit c o) = initEvents c o := by
  simp only [expandInit, forceIdle, bringUp, applySettings, addrReset, clearSeq, sendSettled, reach, traceOf_append,
    traceOf_bringUpPulse, traceOf_sendByte, traceOf, List.append_nil, List.nil_append, ← List.append_assoc]
  rfl

theorem initEvents_length (c : Setup) (o : InitOptions) : (initEvents c o).length = 93 := by
  simp only [initEvents, List.length_append]; rfl

theorem leastWait_bringUpPulse (c : Setup) (n : Nibble) (wait : Nat) :
    leastWait (bringUpPulse c n wait) = c.timing.tEn + wait := rfl

/-- The power-on wait, the four pulses, the seven bytes and the settle of the clear (R162). -/
theorem leastWait_expandInit (c : Setup) (o : InitOptions) :
    leastWait (expandInit c o) = c.timing.tPowerOn + 4 * c.timing.tEn + c.timing.tInit1 + c.timing.tInit2 +
      c.timing.tInit3 + c.timing.tInit4 + 7 * 4 * c.timing.tEn + c.timing.tClear := by
  simp only [expandInit, forceIdle, bringUp, applySettings, addrReset, clearSeq, sendSettled, reach, leastWait_append,
    leastWait_bringUpPulse, leastWait_sendByte, leastWait]
  omega

/-- What INIT's list has of a kind of micro-operations, from what a pulse, a byte and a state write have of it (R162). -/
theorem countP_expandInit {f : MicroOp → Bool} {pulse byte total : Nat} {write : Bool}
    (hpulse : ∀ n wait, (bringUpPulse c n wait).countP f = pulse) (hbyte : ∀ b, (sendByte c .command b).countP f = byte)
    (hwrite : ∀ x, f (.st x) = write)
    (htotal : [MicroOp.port (.wb 0x00), .dly c.timing.tPowerOn, .dly c.timing.tClear].countP f + 4 * pulse + 7 * byte +
      13 * write.toNat = total) : (expandInit c o).countP f = total := by
  rw [← htotal]
  have hreach (m : InitState) : f (reach m) = write := hwrite _
  simp only [expandInit, forceIdle, bringUp, applySettings, addrReset, clearSeq, sendSettled, List.countP_append,
    List.countP_cons, List.countP_nil, hpulse, hbyte, hwrite, hreach]
  cases write <;> simp <;> omega

/-! ### What INIT leaves (R34, R152, R157) -/

/-- The last two state writes stand (R157). -/
theorem State.okRun_expandInit_flags (c : Setup) (o : InitOptions) (s : State) :
    (State.okRun (expandInit c o) s).initialized = true ∧ (State.okRun (expandInit c o) s).initState = .ready := by
  rw [expandInit, State.okRun_append]
  exact ⟨rfl, rfl⟩

theorem State.finish_flags (s : State) : FlagsKept s s.finish := by
  obtain ⟨l, c, hfin⟩ := s.finish_eq
  rw [hfin]
  exact ⟨rfl, rfl⟩

section
variable {t : State} (hb : s.busy = false) (hport : PortOk 55 s)
include hb hport

theorem exec_init_ok (o : InitOptions) :
    exec (.init o) s = .next (State.okRun (expandInit s.cfg o) (s.start (.init o))).finish := by
  rw [← portCount_expandInit s.cfg o] at hport
  exact exec_ok hb rfl hport

/-- What INIT leaves of the block, whatever the pin map is. -/
theorem exec_init_leaves (ht : exec (.init o) s = .next t) :
    t.busy = false ∧ t.replies = s.replies ++ [⟨s.issuer, .ok⟩] ∧ t.trace = s.trace ++ initEvents s.cfg o ∧
      SurroundingsKept s t ∧ t.answers = s.answers.drop 55 ∧ t.pauses = s.pauses ∧ t.initialized = true ∧
      t.initState = .ready := by
  have hcount : portCount (expand s.cfg (.init o)) = 55 := portCount_expandInit ..
  obtain ⟨hidle, hreplies, htrace, hkept, hanswers, hpauses⟩ := exec_ok_leaves hb rfl (by rwa [hcount]) ht
  rw [hcount] at hanswers
  rw [expand, traceOf_expandInit] at htrace
  obtain ⟨hflag, hstate⟩ := State.okRun_expandInit_flags s.cfg o (s.start (.init o))
  obtain ⟨hflagKept, hstateKept⟩ := State.finish_flags (State.okRun (expandInit s.cfg o) (s.start (.init o)))
  obtain rfl : (State.okRun (expandInit s.cfg o) (s.start (.init o))).finish = t := by
    rw [exec_init_ok hb hport o] at ht
    injection ht
  exact ⟨hidle, hreplies, htrace, hkept, hanswers, hpauses, hflagKept.trans hflag, hstateKept.trans hstate⟩

end

/-- `ctrl_sync` after an INIT that completes (R34, R161). -/
theorem State.finish_init_ctrlSync (hop : s.op = some (.init o)) :
    s.finish.ctrlSync = if o.dataWidth then .unknown else .inSync := by
  rw [State.finish, hop, State.complete_ctrlSync]
  cases hwidth : o.dataWidth <;> simp [State.panelAfter, losesPanel, isInit, hwidth]

end Sys2Proof.Machine

open Sys2Proof Sys2Proof.Machine

/-- Settles O13: its list says all of it but the latch events and OUT, which are `State.okRun_expandInit`. -/
theorem initCompletes : Obligations.InitCompletes := by
  intro s o hb hp hport
  have ht := exec_init_ok hb hport o
  obtain ⟨hidle, hreplies, htrace, hkept, hanswers, -, hflag, hstate⟩ := exec_init_leaves hb hport ht
  obtain ⟨hlatched, hout⟩ := State.okRun_expandInit (s := s.start (.init o)) hp rfl o
  have helapsed := State.okRun_elapsed (ops := expandInit s.cfg o) (s := s.start (.init o)) rfl
  obtain ⟨-, hbegun⟩ := State.okRun_trace (ops := expandInit s.cfg o) (s := s.start (.init o)) rfl
  obtain ⟨hflight, -⟩ := Bool.or_eq_false_iff.mp hbegun
  obtain ⟨-, hdraws⟩ := State.okRun_answers (expandInit s.cfg o) (s.start (.init o))
  obtain ⟨-, -, hop, -⟩ := State.okRun_kept (expandInit s.cfg o) (s.start (.init o))
  obtain ⟨hflatched, hfelapsed, hfout, hfdraws, hfflight⟩ :=
    (State.okRun (expandInit s.cfg o) (s.start (.init o))).finish_records
  rw [portCount_expandInit] at hdraws
  rw [leastWait_expandInit] at helapsed
  refine ⟨_, ht, ⟨htrace, hflatched.trans hlatched, ?_, hfout.trans hout, hreplies, hanswers, hfdraws.trans hdraws,
    hidle, hfflight.trans hflight, hkept⟩, hflag, hstate, State.finish_init_ctrlSync hop⟩
  have hsame : (s.start (.init o)).elapsed = s.elapsed := rfl
  omega

/-- Settles O14: the list is an idle word, four pulses, seven bytes, thirteen state writes and two waits. -/
theorem initCounts : Obligations.InitCounts := by
  intro c o
  have hevents : (traceOf c.outReg (expandInit c o)).length = 93 := by rw [traceOf_expandInit, initEvents_length]
  have hlength : (expandInit c o).length = 106 := by
    rw [← List.countP_true]
    exact countP_expandInit (fun _ _ => rfl) (fun _ => rfl) (fun _ => rfl) rfl
  refine ⟨hlength, portCount_expandInit c o, ?_, ?_, ?_, ?_, ?_, hevents, leastWait_expandInit c o, ?_, ?_⟩
  iterate 5 exact countP_expandInit (fun _ _ => rfl) (fun _ => rfl) (fun _ => rfl) rfl
  · simp [initLatches, byteLatches]
  · simp [initLatches, byteLatches, pulseLatch, Mode.rsLevel]

/-- Settles O16: the trace depends on the configuration and the options, and the first run leaves the configuration. -/
theorem initReplays : Obligations.InitReplays := by
  intro s o hb hport
  have hfirst : PortOk 55 s := (hport.split (m := 55) (n := 55) (t := { s with answers := s.answers.drop 55 }) rfl rfl).1
  obtain ⟨t, ht⟩ : ∃ t, exec (.init o) s = .next t := ⟨_, exec_admitted hb rfl⟩
  obtain ⟨hidle, -, htrace, ⟨⟨-, hcfg, -⟩, -⟩, hanswers, hpauses, hflag, hstate⟩ := exec_init_leaves hb hfirst ht
  have hsecond := (hport.split (m := 55) (n := 55) hanswers hpauses).2
  obtain ⟨u, hu⟩ : ∃ u, exec (.init o) t = .next u := ⟨_, exec_admitted hidle rfl⟩
  obtain ⟨-, -, htrace', hkept', -, -, hflag', hstate'⟩ := exec_init_leaves hidle hsecond hu
  rw [hcfg] at htrace'
  exact ⟨_, _, initEvents s.cfg o, ht, hu, htrace, htrace', initEvents_length .., ⟨hflag'.trans hflag.symm,
    hstate'.trans hstate.symm⟩, hflag, hkept'⟩

end

section
/-! # The milestones of INIT

Settles O17 (spec/10_state.md R25; spec/41_init_sequencer.md R150): the milestone that a host reads while a primitive of
INIT has not answered. -/

namespace Sys2Proof.Machine

variable {s : State} {o : InitOptions} {k : Nat}

/-! ### The milestone at each primitive (R150) -/

/-- The milestone that stands at primitive number `k` of the list, counted from 0, if `m` stands before the list. -/
def milestoneAt (m : InitState) (k : Nat) (ops : List MicroOp) : InitState :=
  match ops with
  | [] => m
  | .st (.initState m') :: ms => milestoneAt m' k ms
  | .st (.initialized _) :: ms => milestoneAt m k ms
  | .dly _ :: ms => milestoneAt m k ms
  | .port _ :: ms =>
    match k with
    | 0 => m
    | j + 1 => milestoneAt m j ms

/-- It is what the block holds when it comes to that primitive. -/
theorem State.okRun_initState (done : List MicroOp) (p : Primitive) (later : List MicroOp) (s : State) :
    (State.okRun done s).initState = milestoneAt s.initState (portCount done) (done ++ .port p :: later) := by
  induction done generalizing s with
  | nil => rfl
  | cons m ms ih =>
    rw [State.okRun_cons, ih]
    match m with
    | .st (.initState _) => simp [milestoneAt, State.okStep, State.assign]
    | .st (.initialized _) => simp [milestoneAt, State.okStep, State.assign]
    | .dly _ => simp [milestoneAt, State.okStep]
    | .port _ => simp [milestoneAt, State.okStep]

/-- A milestone stands through the primitives of a part without state writes. -/
theorem milestoneAt_append (m : InitState) (k : Nat) {part : List MicroOp} (hfree : writeFree part)
    (later : List MicroOp) : milestoneAt m k (part ++ later) =
      if k < portCount part then m else milestoneAt m (k - portCount part) later := by
  induction part generalizing k with
  | nil => simp
  | cons x xs ih =>
    have hrest : writeFree xs := hfree.drop 1
    cases x with
    | st w => simp [writeFree, MicroOp.isState] at hfree
    | dly d => simpa [milestoneAt] using ih k hrest
    | port p =>
      cases k with
      | zero => simp [milestoneAt]
      | succ j => simpa [milestoneAt] using ih j hrest

theorem bringUpPulse_writeFree (c : Setup) (n : Nibble) (wait : Nat) : writeFree (bringUpPulse c n wait) := rfl

section
variable (c : Setup) (m : InitState) (k : Nat) (later : List MicroOp)

theorem milestoneAt_bringUpPulse (n : Nibble) (wait : Nat) : milestoneAt m k (bringUpPulse c n wait ++ later) =
    if k < 3 then m else milestoneAt m (k - 3) later :=
  milestoneAt_append m k (bringUpPulse_writeFree c n wait) later

theorem milestoneAt_sendByte (mode : Mode) (b : Byte) : milestoneAt m k (sendByte c mode b ++ later) =
    if k < 6 then m else milestoneAt m (k - 6) later :=
  milestoneAt_append m k (sendByte_writeFree c mode b) later

theorem milestoneAt_forceIdle : milestoneAt m k (forceIdle c ++ later) =
    if k < 1 then m else milestoneAt .forcedIdle (k - 1) later := by
  cases k <;> simp [forceIdle, reach, milestoneAt]

theorem milestoneAt_reach (m' : InitState) : milestoneAt m k (reach m' :: later) = milestoneAt m' k later := rfl

end

/-- The milestones in list order: the idle word, the pulses and the bytes that lie between two of them (R150, R152). -/
theorem milestoneAt_expandInit (c : Setup) (o : InitOptions) (m : InitState) {k : Nat} (hk : k < 55) :
    milestoneAt m k (expandInit c o) =
      (if k < 1 then .unpowered else if k < 4 then .forcedIdle else if k < 7 then .eightBitPulse1
       else if k < 10 then .eightBitPulse2 else if k < 19 then .eightBitPulse3 else if k < 25 then .functionLocked
       else if k < 31 then .displayOff else if k < 43 then .entrySet else .displayConfigured) := by
  simp only [expandInit, bringUp, applySettings, addrReset, clearSeq, sendSettled, List.append_assoc, List.cons_append,
    List.nil_append, milestoneAt, milestoneAt_reach, milestoneAt_forceIdle, milestoneAt_bringUpPulse,
    milestoneAt_sendByte, Nat.sub_sub, Nat.reduceAdd]
  have shift {a b : Nat} (hb : 0 < b) : k - a < b ↔ k < a + b := by omega
  have merge {a b : Nat} (h : a ≤ b) (x y : InitState) :
      (if k < a then x else if k < b then x else y) = if k < b then x else y := by
    by_cases hka : k < a
    · simp [hka, Nat.lt_of_lt_of_le hka h]
    · simp [hka]
  simp (disch := decide) only [shift, merge, hk, Nat.reduceAdd, if_true, ite_self]

/-! ### An INIT whose primitive has not answered (R25, R28) -/

/-- It stands between its first state write and its last, so the flag is clear (R152). -/
theorem ReadyInv.init_inFlight (hready : ReadyInv s) (hflight : FlightInv s) (hop : s.op = some (.init o))
    (hin : s.inFlight = true) : s.initialized = false := by
  obtain ⟨-, hport, -⟩ := hflight
  obtain ⟨hb, p, hp, -⟩ := hport hin
  obtain ⟨hseq, -, hflag, -⟩ := (ReadyInv_init hb hop).mp hready
  have hlt : s.upc < s.seq.length := (List.getElem?_eq_some_iff.mp hp).1
  have hpos : 0 < s.upc := Nat.pos_of_ne_zero fun hzero => by simp [hseq, hzero, expandInit_eq] at hp
  exact Bool.eq_false_iff.mpr fun hset => by
    have := (hflag hpos).mp hset
    omega

/-- The milestone that stands while primitive number `k` has not answered. -/
theorem State.resume_waiting_initState (hk : k < portCount s.rest) (h : PortThen k .waiting s) :
    s.resume.initState = milestoneAt s.initState k s.rest := by
  obtain ⟨done, p, later, hrest, hcut, hanswer, hrun⟩ := h.reaches hk
  have hcount : portCount done = k := by
    have := portCount_cutAt hk
    rw [hcut, portCount_append] at this
    simpa using this
  rw [hrun, State.runList_port_waiting _ hanswer, hrest, ← hcount, ← State.okRun_initState]
  simp

end Sys2Proof.Machine

open Sys2Proof Sys2Proof.Machine

/-- Settles O17: `milestoneAt` reads the milestone off INIT's list, and the invariants say that the flag is clear. -/
theorem initMilestones : Obligations.InitMilestones := by
  intro s o k hb hk h
  have hcount : k < portCount (s.start (.init o)).rest := by rw [← portCount_expandInit s.cfg o] at hk; exact hk
  have hflight := (FlightInv.start (.init o) s).resume rfl
  have hready := (ReadyInv.start_init o s).resume rfl
  obtain ⟨hbusy, hin, hreplies, -, hop, -⟩ := State.resume_waiting (s := s.start (.init o)) rfl (.start ..) hcount h
  have hstate := State.resume_waiting_initState hcount h
  exact ⟨_, exec_admitted hb rfl, hbusy, hready.init_inFlight hflight hop hin, hreplies,
    hstate.trans (milestoneAt_expandInit s.cfg o s.initState hk)⟩
end

section
/-! # The eight DisplayCommands operations

Settles O19 to O25 and O29 (spec/42_display_commands.md R180 to R191): the lists of the operations as bytes and the settle,
what the port and the panel see of a byte and what follows it, and the two refusals. -/

namespace Sys2Proof.Machine

variable {c : Setup} {s : State} {i : Instr} {ops : List MicroOp} {es : List Latch} {v b : Byte}

/-! ### What a list of bytes shows the panel (R128, R187 to R191) -/

/-- Only the first write of an operation can meet EN high: behind its first byte, a list latches its own pairs alone. -/
theorem State.okRun_sendByte_append {mode : Mode} (hp : s.cfg.pinmap.Legal) (hbegun : s.begun = false)
    (h : Latches s.cfg ops es v) :
    (State.okRun (sendByte s.cfg mode b ++ ops) s).latched =
        s.latched ++ (strayLatch s ⟨Mode.rsLevel mode, highNibble b⟩ ++ byteLatches mode b ++ es) ∧
      (State.okRun (sendByte s.cfg mode b ++ ops) s).out = v := by
  obtain ⟨hfirst, hout⟩ := State.okRun_sendByte (mode := mode) (b := b) hp hbegun
  obtain ⟨-, hbegun'⟩ := State.okRun_trace (ops := sendByte s.cfg mode b) hbegun
  have hcfg := State.okRun_cfg (sendByte s.cfg mode b) s
  rw [State.okRun_append]
  generalize State.okRun (sendByte s.cfg mode b) s = t at hfirst hout hbegun' hcfg ⊢
  have hen : EnLow t := by rw [EnLow, hout, hcfg]; exact outputWord_enLow hp ..
  obtain ⟨-, hrest⟩ := h
  obtain ⟨hlatched, hlast⟩ := hrest t hcfg hbegun' hen
  exact ⟨by rw [hlatched, hfirst, List.append_assoc], hlast⟩

/-- A table or a text in front of a list. -/
theorem Latches.sendData_append (hp : c.pinmap.Legal) (bytes : List Byte) (h : Latches c ops es v) :
    Latches c (sendData c bytes ++ ops) (bytes.flatMap (byteLatches .data) ++ es) v := by
  induction bytes with
  | nil => exact h
  | cons b bs ih =>
    rw [sendData, List.flatMap_cons, List.flatMap_cons, List.append_assoc, List.append_assoc]
    exact (latches_sendByte hp .data b).append ih

/-- A text that is not empty (R189): OUT holds the low nibble of its last character. -/
theorem State.okRun_sendData_cons (hp : s.cfg.pinmap.Legal) (hbegun : s.begun = false) (b : Byte) (bs : List Byte) :
    (State.okRun (sendData s.cfg (b :: bs)) s).latched =
        s.latched ++ (strayLatch s ⟨Mode.rsLevel .data, highNibble b⟩ ++ (b :: bs).flatMap (byteLatches .data)) ∧
      (State.okRun (sendData s.cfg (b :: bs)) s).out =
        outputWord s.cfg.pinmap .data (lowNibble (bs.getLast?.getD b)) := by
  rcases List.eq_nil_or_concat bs with rfl | ⟨middle, last, rfl⟩
  · simpa [sendData] using State.okRun_sendByte (mode := .data) (b := b) hp hbegun
  · simpa [sendData] using State.okRun_sendByte_append (mode := .data) (b := b) hp hbegun
      ((latches_sendByte hp .data last).sendData_append hp middle)

/-- LOADGLYPHS (R187, R190): behind its address byte come the table and the byte of row 0, column 0. -/
theorem State.okRun_expandLoadglyphs (hp : s.cfg.pinmap.Legal) (hbegun : s.begun = false) (table : List Byte) :
    (State.okRun (expandLoadglyphs s.cfg table) s).latched =
        s.latched ++ (strayLatch s ⟨false, 0x4⟩ ++ byteLatches .command 0x40 ++ table.flatMap (byteLatches .data) ++
          byteLatches .command (ddramByte (rowStartOf s.cfg.geom 0))) ∧
      (State.okRun (expandLoadglyphs s.cfg table) s).out =
        outputWord s.cfg.pinmap .command (lowNibble (ddramByte (rowStartOf s.cfg.geom 0))) := by
  have hrest := (latches_sendByte hp .command (ddramByte (rowStartOf s.cfg.geom 0))).sendData_append hp table
  rw [expandLoadglyphs, addrReset, List.append_assoc, List.append_assoc (_ ++ _)]
  exact State.okRun_sendByte_append hp hbegun hrest

theorem latches_clearSeq (hp : c.pinmap.Legal) :
    Latches c (clearSeq c) (byteLatches .command 0x01) (outputWord c.pinmap .command 0x1) :=
  (latches_sendByte hp .command 0x01).dly _

/-! ### The least time of a list of bytes (R236, R290) -/

theorem leastWait_sendSettled (c : Setup) (b : Byte) :
    leastWait (sendSettled c b) = 4 * c.timing.tEn + c.timing.tClear := by
  rw [sendSettled, leastWait_append, leastWait_sendByte]; rfl

theorem leastWait_sendThenClear (c : Setup) (b : Byte) :
    leastWait (sendThenClear c b) = 8 * c.timing.tEn + c.timing.tClear := by
  rw [sendThenClear, leastWait_append, leastWait_sendByte, clearSeq, leastWait_sendSettled]
  omega

theorem leastWait_sendData (c : Setup) (bytes : List Byte) :
    leastWait (sendData c bytes) = 4 * bytes.length * c.timing.tEn := by
  induction bytes with
  | nil => simp [sendData, leastWait]
  | cons b bs ih =>
    rw [sendData, List.flatMap_cons, leastWait_append, leastWait_sendByte, ← sendData, ih, List.length_cons]
    ring

theorem leastWait_expandLoadglyphs (c : Setup) (table : List Byte) :
    leastWait (expandLoadglyphs c table) = 4 * (table.length + 2) * c.timing.tEn := by
  rw [expandLoadglyphs, addrReset, leastWait_append, leastWait_append, leastWait_sendByte, leastWait_sendByte,
    leastWait_sendData]
  ring

/-! ### The primitives and the port trace of LOADGLYPHS (R187, R190) -/

theorem portCount_expandLoadglyphs (c : Setup) (table : List Byte) :
    portCount (expandLoadglyphs c table) = 6 * (table.length + 2) := by
  rw [expandLoadglyphs, addrReset, portCount_append, portCount_append, portCount_sendByte, portCount_sendByte,
    portCount_sendData]
  ring

theorem traceOf_expandLoadglyphs (c : Setup) (table : List Byte) :
    traceOf c.outReg (expandLoadglyphs c table) = byteEvents c .command 0x40 ++ table.flatMap (byteEvents c .data) ++
      byteEvents c .command (ddramByte (rowStartOf c.geom 0)) := by
  rw [expandLoadglyphs, addrReset, traceOf_append, traceOf_append, traceOf_sendData]
  rfl

/-! ### A settled byte, and a byte and then the clear (R181 to R186, R191) -/

section
variable (hb : s.busy = false) (hr : refusalOf i s = none) (hi : isInit i = false) (hp : s.cfg.pinmap.Legal)
include hb hr hi hp

theorem exec_sendSettled (hport : PortOk 6 s) (hlist : expand s.cfg i = sendSettled s.cfg b) :
    ∃ t, exec i s = .next t ∧
      RanOk s t 6 (byteEvents s.cfg .command b ++ [.wait s.cfg.timing.tClear])
        (strayLatch s ⟨false, highNibble b⟩ ++ byteLatches .command b) (4 * s.cfg.timing.tEn + s.cfg.timing.tClear)
        (outputWord s.cfg.pinmap .command (lowNibble b)) ∧
      FlagsKept s t ∧ t.ctrlSync = if losesPanel i then .unknown else s.ctrlSync := by
  obtain ⟨hlatched, hout⟩ := State.okRun_sendByte (s := s.start i) (mode := .command) (b := b) hp rfl
  obtain ⟨hquiet, hsame⟩ :=
    State.okRun_dly (s := State.okRun (sendByte s.cfg .command b) (s.start i)) s.cfg.timing.tClear
  rw [← State.okRun_append] at hquiet hsame
  exact exec_ranOk hb hr hi hlist rfl hport rfl (leastWait_sendSettled ..).ge (hquiet.trans hlatched)
    (hsame.trans hout)

theorem exec_sendThenClear (hport : PortOk 12 s) (hlist : expand s.cfg i = sendThenClear s.cfg b) :
    ∃ t, exec i s = .next t ∧
      RanOk s t 12 (byteEvents s.cfg .command b ++ byteEvents s.cfg .command 0x01 ++ [.wait s.cfg.timing.tClear])
        (strayLatch s ⟨false, highNibble b⟩ ++ byteLatches .command b ++ byteLatches .command 0x01)
        (8 * s.cfg.timing.tEn + s.cfg.timing.tClear) (outputWord s.cfg.pinmap .command 0x1) ∧
      FlagsKept s t ∧ t.ctrlSync = if losesPanel i then .unknown else s.ctrlSync := by
  obtain ⟨hlatched, hout⟩ := State.okRun_sendByte_append (s := s.start i) (mode := .command) (b := b) hp rfl
    (latches_clearSeq hp)
  exact exec_ranOk hb hr hi hlist rfl hport rfl (leastWait_sendThenClear ..).ge hlatched hout

end

/-! ### The byte of an address (R101, R188) -/

/-- Bit 7 is clear in an address, so the OR with 0x80 is a sum. -/
theorem toNat_ddramByte {n : Nat} (h : n < 128) : (ddramByte n).toNat = 0x80 + n := by
  obtain ⟨-, -, -, -, hsum, -⟩ := composedBytes
  have hbyte := (hsum (BitVec.ofNat 7 n)).2
  rw [BitVec.toNat_ofNat, Nat.mod_eq_of_lt h] at hbyte
  rw [hbyte, BitVec.toNat_add, BitVec.toNat_setWidth, BitVec.toNat_ofNat, Nat.mod_eq_of_lt h,
    show (0x80 : Byte).toNat = 0x80 from rfl]
  omega

/-! ### The two refusals (R180, R183), and the first primitive of INIT (R153, R262) -/

theorem refusalOf_goto_outOfRange {row : BitVec 4} {column : BitVec 8} (h : s.initialized = true)
    (hout : s.cfg.geom.rows ≤ row.toNat ∨ s.cfg.geom.columns ≤ column.toNat) :
    refusalOf (.goto row column) s = some .outOfRange := by
  have hrange : gotoInRange s.cfg.geom row column = false := by
    simp only [gotoInRange, decide_eq_false_iff_not]
    omega
  simp [refusalOf, gotoRefusal, State.guard, h, hrange]

theorem initEvents_eq_cons (c : Setup) (o : InitOptions) :
    initEvents c o = .call c.outReg (.wb 0x00) :: (initEvents c o).tail := rfl

end Sys2Proof.Machine

open Sys2Proof Sys2Proof.Machine

/-- Settles O19: both send one byte with the settle behind it. -/
theorem clearHomeComplete : Obligations.ClearHomeComplete := by
  intro s hb hready hp hport
  have admitted {j : Instr} := refusalOf_guarded (i := j) hready
  exact ⟨exec_sendSettled (i := .clear) hb (admitted (by simp)) rfl hp hport rfl,
    exec_sendSettled (i := .home) hb (admitted (by simp)) rfl hp hport rfl⟩

/-- Settles O20: GOTO in range is admitted and sends the byte of its address. -/
theorem gotoCompletes : Obligations.GotoCompletes := by
  intro s row column b hb hready hp hport hrow hcolumn hbyte
  obtain rfl : b = ddramByte (gotoAddress s.cfg.geom row column) := hbyte
  obtain ⟨hlatched, hout⟩ := State.okRun_sendByte (s := s.start (.goto row column)) (mode := .command)
    (b := ddramByte (gotoAddress s.cfg.geom row column)) hp rfl
  exact exec_ranOk (i := .goto row column) hb (refusalOf_goto hready hrow hcolumn) rfl rfl
    (portCount_sendByte s.cfg .command _) hport (traceOf_sendByte ..) (leastWait_sendByte ..).ge hlatched hout

/-- Settles O21: behind the guard, the range is checked. -/
theorem gotoOutOfRange : Obligations.GotoOutOfRange := fun _ _ _ hb hready hout =>
  exec_refused hb (refusalOf_goto_outOfRange hready hout)

/-- Settles O22: `gotoAddress_lt` is R10's bound, and below 0x80 the OR with 0x80 is the sum. -/
theorem gotoAddressFits : Obligations.GotoAddressFits := by
  intro g row column hg hrow hcolumn
  have hlt := gotoAddress_lt hg hrow hcolumn
  obtain ⟨-, -, -, hlength, -⟩ := hg
  have hrow' : row.toNat < g.rowStart.length := hlength ▸ hrow
  have haddress : gotoAddress g row column = g.rowStart[row.toNat].toNat + column.toNat := by
    rw [gotoAddress, rowStartOf, ← List.getElem_eq_getD (h := hrow')]
  refine ⟨g.rowStart[row.toNat], List.getElem_mem hrow', List.getElem?_eq_getElem hrow', haddress, by omega, ?_⟩
  rw [toNat_ddramByte hlt, haddress]

/-- Settles O23: each operation sends its byte of R101 and then the clear. -/
theorem modeOperationsComplete : Obligations.ModeOperationsComplete := by
  intro s i b hb hready hp hport hmode
  have admitted {j : Instr} := refusalOf_guarded (i := j) hready
  obtain ⟨hentry, hdisplay, hmove, -⟩ := composedBytes
  rcases hmode with ⟨a, sh, rfl, rfl⟩ | ⟨d, c, bl, rfl, rfl⟩ | ⟨v, r, rfl, rfl⟩
  · rw [← (hentry a sh).1]
    exact exec_sendThenClear hb (admitted (by simp)) rfl hp hport rfl
  · rw [← (hdisplay d c bl).1]
    exact exec_sendThenClear hb (admitted (by simp)) rfl hp hport rfl
  · rw [← (hmove v r).1]
    exact exec_sendThenClear hb (admitted (by simp)) rfl hp hport rfl

/-- Settles O24: the list is the address byte, the table and the byte of row 0, column 0. -/
theorem loadglyphsCompletes : Obligations.LoadglyphsCompletes := by
  intro s table back hb hready hp hport hback
  obtain rfl : back = ddramByte (rowStartOf s.cfg.geom 0) := hback
  obtain ⟨hlatched, hout⟩ := State.okRun_expandLoadglyphs (s := s.start (.loadglyphs table)) hp rfl table
  exact exec_ranOk (i := .loadglyphs table) hb (refusalOf_guarded hready (by simp)) rfl rfl
    (portCount_expandLoadglyphs s.cfg table) hport (traceOf_expandLoadglyphs s.cfg table)
    (leastWait_expandLoadglyphs s.cfg table).ge hlatched hout

/-- Settles O25: the empty text has the empty list, and `State.okRun_sendData_cons` says what any other does. -/
theorem writestringCompletes : Obligations.WritestringCompletes := by
  intro s text hb hready hp hport
  have hrefusal : refusalOf (.writestring text) s = none := refusalOf_guarded hready (by simp)
  have hcount := portCount_sendData s.cfg text
  have htrace := traceOf_sendData s.cfg text
  have hwait := (leastWait_sendData s.cfg text).ge
  cases text with
  | nil =>
    exact exec_ranOk (i := .writestring []) hb hrefusal rfl rfl hcount hport htrace hwait (List.append_nil _).symm rfl
  | cons b bs =>
    obtain ⟨hlatched, hout⟩ := State.okRun_sendData_cons (s := s.start (.writestring (b :: bs))) hp rfl b bs
    rw [List.getLast?_cons]
    exact exec_ranOk (i := .writestring (b :: bs)) hb hrefusal rfl rfl hcount hport htrace hwait hlatched hout

/-- Settles O29: the guard comes first, and what an INIT adds to the port trace is a first part of INIT's own. -/
theorem guardRefuses : Obligations.GuardRefuses := by
  intro s hb hready
  refine ⟨fun i hi => exec_refused hb (refusalOf_notInitialized hi hready), fun o t ht => ?_⟩
  obtain ⟨done, htrace, hprefix, -⟩ := exec_ranPart hb ht
  rw [expand, traceOf_expandInit, initEvents_eq_cons] at hprefix
  rcases List.prefix_cons_iff.mp hprefix with rfl | ⟨more, rfl, -⟩
  · exact .inl (htrace.trans (List.append_nil _))
  · exact .inr ⟨more, htrace⟩

end

section
/-! # INIT brings any controller in step

Settles O18 (spec/41_init_sequencer.md R152 to R156; spec/60_exceptions.md R231, R240; spec/70_reset_and_hazards.md R264, R283;
log 5, 15 to 18): up to the last bring-up nibble by `EndsInStep`, which holds for every controller, and from there byte by
byte, since the controller is in step. -/

namespace Sys2Proof.Machine

variable {s t : State} {k : Nat} {l : Lcd} {i : Instr} {b : Byte}

theorem State.okStep_port_out (s : State) (p : Primitive) : (s.okStep (.port p)).out = p.result s.out := by
  simp [State.okStep]

/-- A primitive that answers `ok` reaches the controller only where it lets EN fall (R35). -/
theorem State.okStep_port_lcd (s : State) (p : Primitive) :
    (s.okStep (.port p)).lcd =
      if pinLevel s.out s.cfg.pinmap.en && !pinLevel (p.result s.out) s.cfg.pinmap.en then
        s.lcd.latch (s.draws + 1) s.cfg.timing.tClear (panelLatch s.cfg.pinmap (p.result s.out))
      else s.lcd := by
  simp [State.okStep, State.callOk, State.drive_lcd]

/-- `EndsInStep` speaks of what the list, performed with nothing but `ok`, does to OUT and the controller (R35, R55). -/
theorem EndsInStep.okRun {ops : List MicroOp} (hbegun : s.begun = false) (h : EndsInStep s.cfg s.out s.lcd ops) :
    InStep s.cfg (State.okRun ops s).out (State.okRun ops s).lcd := by
  induction ops generalizing s with
  | nil => exact h
  | cons m ms ih =>
    have hnext : EndsInStep s.cfg (s.okStep m).out (s.okStep m).lcd ms := by
      cases m with
      | port p =>
        rw [EndsInStep_port] at h
        rw [State.okStep_port_out, State.okStep_port_lcd]
        split at h
        next hfalls => rw [if_pos hfalls]; exact h _
        next hquiet => rw [if_neg hquiet]; exact h
      | dly d =>
        obtain ⟨-, htimer⟩ : s.inFlight = false ∧ s.timerOn = false := by simpa [State.begun] using hbegun
        simpa [State.okStep, State.wait_lcd s d htimer] using h
      | st w => simpa [State.okStep] using h
    rw [← s.okStep_cfg m] at hnext
    simpa using ih (State.okStep_begun hbegun m) hnext

/-- INIT up to its last bring-up pulse brings a controller in step that owes no more than the power-on wait (R153, R154). -/
theorem PanelAt.initFront_bringUp (o : InitOptions) (hp : s.cfg.pinmap.Legal)
    (howed : s.lcd.owed ≤ s.cfg.timing.tPowerOn) :
    ∃ k l, l.inStep ∧
      PanelAt s (State.okRun (initFront s.cfg ++ Machine.bringUp s.cfg) (s.start (.init o))) k l := by
  have hzero : pinLevel 0x00 s.cfg.pinmap.en = false := by simp [pinLevel]
  have hends : EndsInStep s.cfg s.out s.lcd (initFront s.cfg ++ Machine.bringUp s.cfg) :=
    EndsInStep.forceIdle howed fun _ hl => .bringUp hp hzero hl
  have hcfg := State.okRun_cfg (initFront s.cfg ++ Machine.bringUp s.cfg) (s.start (.init o))
  obtain ⟨-, hbegun⟩ :=
    State.okRun_trace (ops := initFront s.cfg ++ Machine.bringUp s.cfg) (s := s.start (.init o)) rfl
  obtain ⟨hen, hin⟩ := EndsInStep.okRun (s := s.start (.init o)) rfl hends
  exact ⟨_, _, hin, hcfg, hbegun, by rw [EnLow, hcfg]; exact hen, rfl, rfl⟩

/-- Between two bytes of an operation begun in `s` (legal pin map): the controller is `l`, and in step. -/
structure PanelInStep (s t : State) (k : Nat) (l : Lcd) : Prop extends PanelAt s t k l where
  legal : s.cfg.pinmap.Legal
  inStep : l.inStep

theorem PanelInStep.st (h : PanelInStep s t k l) (w : StateWrite) : PanelInStep s (State.okRun [.st w] t) k l where
  cfg := (t.okStep_cfg (.st w)).trans h.cfg
  begun := State.okStep_begun h.begun (.st w)
  enLow := by simpa [EnLow, State.okStep] using h.enLow
  draws := by simpa [State.okStep] using h.draws
  lcd := by simpa [State.okStep] using h.lcd
  legal := h.legal
  inStep := h.inStep

/-- The list of an LCD8 row that is no function set (R98, R191). -/
theorem PanelInStep.row (h : PanelInStep s t k l) (hbyte : encode i = .byte b) (hl : losesPanel i = false) :
    PanelInStep s (State.okRun (expand s.cfg i) t) (k + 6) (l.obeyed (k + 6) s.cfg.timing.tClear i) where
  toPanelAt := h.expandRow h.legal h.inStep hbyte ((losesPanel_eq_isFunctionSet hbyte).symm.trans hl)
  legal := h.legal
  inStep := Lcd.obeyed_inStep hbyte ((losesPanel_eq_isFunctionSet hbyte).symm.trans hl) h.inStep

theorem readCommand_functionByte (n f : Bool) :
    readCommand (functionByte false n f) = some (.lcdFunctionSet false n f) := by revert n f; decide

/-- The function-set byte of INIT with `dataWidth` 0 keeps the 4-bit bus (R155). -/
theorem PanelInStep.functionSet {w : Bool} (h : PanelInStep s t k l) (hw : w = false) (n f : Bool) :
    PanelInStep s (State.okRun (sendByte s.cfg .command (functionByte w n f)) t) (k + 6)
      (l.obeyed (k + 6) s.cfg.timing.tClear (.lcdFunctionSet false n f)) := by
  subst hw
  have hsent := h.sendCommand h.legal h.inStep (readCommand_functionByte n f)
  obtain ⟨-, -, howed⟩ := h.inStep
  have hnone : (l.obey (k + 6) s.cfg.timing.tClear (.lcdFunctionSet false n f)).owed = 0 := howed
  rw [Lcd.rest_all (hnone.trans_le (Nat.zero_le _))] at hsent
  exact ⟨hsent, h.legal, rfl, rfl, rfl⟩

/-- The controller with the options' settings, as INIT's bytes leave it: increment is set by the clear (R283), and no cell
of DDRAM is known. -/
structure Lcd.SetUp (o : InitOptions) (l : Lcd) : Prop where
  lines : l.regs.lines = o.lineCount
  font : l.regs.font = o.font
  inc : l.regs.inc = true
  shiftOn : l.regs.shiftOn = o.autoShift
  on : l.regs.on = o.displayOn
  cursor : l.regs.cursor = o.cursorOn
  blink : l.regs.blink = o.blinkOn
  ddram : l.ddram = []

/-- What the bytes of INIT with `dataWidth` 0 make of a controller in step: each is the byte of its row (R155, R156). -/
theorem PanelInStep.applySettings {o : InitOptions} (ho : o.dataWidth = false) (h : PanelInStep s t k l) :
    ∃ k l, Lcd.SetUp o l ∧ PanelInStep s (State.okRun (applySettings s.cfg o) t) k l := by
  have hbytes := (h.functionSet ho o.lineCount o.font).st (.initState .functionLocked)
    |>.row (i := .lcdDisplayMode false false false) rfl rfl |>.st (.initState .displayOff)
    |>.row (i := .lcdEntryMode o.autoIncrement o.autoShift) rfl rfl |>.st (.initState .entrySet)
    |>.row (i := .lcdDisplayMode o.displayOn o.cursorOn o.blinkOn) rfl rfl
    |>.row (i := .lcdMoveMode o.moveMode o.moveDirection) rfl rfl |>.st (.initState .displayConfigured)
    |>.row (i := .lcdDdramAddr (s.cfg.geom.rowStart.getD 0 0)) rfl rfl
    |>.row (i := .lcdDisplayClear) rfl rfl |>.st (.initState .cleared)
  simp only [Machine.applySettings, State.okRun_append]
  refine ⟨_, _, ?_, hbytes⟩
  cases o.moveMode <;> exact ⟨rfl, rfl, rfl, rfl, rfl, rfl, rfl, rfl⟩

/-- INIT with `dataWidth` 0, from any controller that owes no more than the power-on wait (R152, R264). -/
theorem PanelInStep.expandInit {o : InitOptions} (ho : o.dataWidth = false) (hp : s.cfg.pinmap.Legal)
    (howed : s.lcd.owed ≤ s.cfg.timing.tPowerOn) :
    ∃ k l, Lcd.SetUp o l ∧ PanelInStep s (State.okRun (expandInit s.cfg o) (s.start (.init o))) k l := by
  obtain ⟨_, _, hin, hup⟩ := PanelAt.initFront_bringUp o hp howed
  obtain ⟨k, l, hset, hbytes⟩ := (PanelInStep.mk hup hp hin).applySettings ho
  refine ⟨k, l, hset, ?_⟩
  have hdone := (hbytes.st (.initState .ready)).st (.initialized true)
  simpa only [expandInit_eq_front, State.okRun_append] using hdone

theorem State.finish_init {o : InitOptions} (hop : s.op = some (.init o)) (ho : o.dataWidth = false) :
    s.finish = s.panelReady.complete .ok := by
  simp [State.finish, hop, State.panelAfter, losesPanel, isInit, ho]

end Sys2Proof.Machine

open Sys2Proof Sys2Proof.Machine

/-- Settles O18: the bring-up nibbles bring any controller in step, and from there each byte acts as its row. -/
theorem initEscapesAnyController : Obligations.InitEscapesAnyController := by
  intro s o hb hp ho howed hport
  obtain ⟨k, l, hset, hrun⟩ := PanelInStep.expandInit ho hp howed
  obtain ⟨-, -, hop, -⟩ := State.okRun_kept (expandInit s.cfg o) (s.start (.init o))
  refine ⟨_, exec_init_ok hb hport o, ?_⟩
  rw [State.finish_init hop ho]
  generalize State.okRun (expandInit s.cfg o) (s.start (.init o)) = t at hrun ⊢
  obtain ⟨⟨hcfg, -, hen, -, rfl⟩, -, hin⟩ := hrun
  have hplace : BitVec.ofNat 7 (rowStartOf t.cfg.geom 0) = s.cfg.geom.rowStart.getD 0 0 := by
    rw [hcfg, rowStartOf, BitVec.ofNat_toNat, BitVec.setWidth_eq]
  exact ⟨rfl, ⟨hcfg ▸ hp, hen, hin⟩, hset.lines, hset.font, hset.inc, hset.shiftOn, hset.on, hset.cursor, hset.blink,
    congrArg Place.ddram hplace, hset.ddram, rfl⟩

end

section
/-! # The order of the checks

Settles O30 (spec/60_exceptions.md R229). -/

namespace Sys2Proof.Machine

variable {s t : State} {i : Instr}

/-- A frame is reserved, an instruction, or not all there (R80, R91). -/
theorem decode_frame_cases (words : List CmdWord) :
    (∃ why rest, decode (.frame words) = .reserved why rest) ∨ (∃ i rest, decode (.frame words) = .instr i rest) ∨
      decode (.frame words) = .incomplete := by
  cases words with
  | nil => exact .inr (.inr rfl)
  | cons cw more =>
    by_cases hlen : more.length < dataWordCount cw
    · exact .inr (.inr (if_pos hlen))
    have hcount : (more.take (dataWordCount cw)).length = dataWordCount cw := by simpa using hlen
    rw [← List.take_append_drop (dataWordCount cw) more]
    by_cases h : ReservedFrame cw (more.take (dataWordCount cw))
    · obtain ⟨why, hwhy⟩ := decode_of_reserved hcount h (more.drop (dataWordCount cw))
      exact .inl ⟨why, _, hwhy⟩
    · obtain ⟨i, hi⟩ := decode_of_not_reserved hcount h (more.drop (dataWordCount cw))
      exact .inr (.inl ⟨i, _, hi⟩)

/-- A refused instruction returns its status and performs no primitive (R222, R223). -/
theorem exec_refused_records {st : Status} (hb : s.busy = false) (hr : refusalOf i s = some st)
    (ht : exec i s = .next t) : t.replies = s.replies ++ [⟨s.issuer, st⟩] ∧ t.trace = s.trace := by
  obtain ⟨u, hu, rfl⟩ := exec_refused hb hr
  obtain rfl : t = _ := Host.Outcome.next.inj (ht.symm.trans hu)
  exact ⟨rfl, rfl⟩

end Sys2Proof.Machine

open Sys2Proof Sys2Proof.Machine

/-- Settles O30: a frame is decoded before its instruction runs, `refusalOf` asks for the flag before the range, and only
an instruction that is not refused performs its list. -/
theorem checkOrder : Obligations.CheckOrder := by
  intro s host words others hr hb hpending hwhole
  rcases decode_frame_cases words with ⟨why, rest, hdecode⟩ | ⟨i, rest, hdecode⟩ | hpart
  · refine ⟨_, step_reserved hr hb hpending hdecode, fun _ => ⟨rfl, rfl⟩, fun j rest' hj => ?_⟩
    rw [hdecode] at hj
    cases hj
  · have hstep := step_instr hr hb hpending hdecode
    let s' := s.takeRequest ⟨host, .frame words⟩ others rest
    have hrefusal : refusalOf i s' = refusalOf i s := refusalOf_takeRequest ..
    obtain ⟨t, ht⟩ : ∃ t, exec i s' = .next t := ⟨_, exec_eq_operate i s'⟩
    have refused {st : Status} (h : refusalOf i s = some st) := exec_refused_records (s := s') hb (hrefusal.trans h) ht
    refine ⟨t, hstep.trans ht, fun ⟨why, rest', hj⟩ => ?_, fun j rest' hj => ?_⟩
    · rw [hdecode] at hj
      cases hj
    obtain ⟨rfl, rfl⟩ : i = j ∧ rest = rest' := Decoded.instr.inj (hdecode.symm.trans hj)
    refine ⟨fun hflag hi => refused (refusalOf_notInitialized hi hflag), ?_, fun hnone k hk hport => ?_⟩
    · rintro hflag row column rfl hout
      exact refused (refusalOf_goto_outOfRange hflag hout)
    · obtain ⟨u, hu, -, hreplies, -⟩ := busFaultEndsAnyInstruction i s' k hb (hrefusal.trans hnone) hk hport
      obtain rfl : t = u := Host.Outcome.next.inj (ht.symm.trans hu)
      exact hreplies
  · exact absurd hpart hwhole

end

section
/-! # Reset, waiting, and what the operations cost

Settles O36, O40 and O50 (spec/70_reset_and_hazards.md R260 to R262, R290). -/

namespace Sys2Proof.Machine

/-! ### An idle block with nothing to take (R80, R260; log 9) -/

theorem State.fetchRequest_none {s : State} (h : s.pending = []) : s.fetchRequest = .settled s := by
  simp only [State.fetchRequest, h]

theorem State.fetchRequest_incomplete {s : State} {r : Request} {others : List Request} (h : s.pending = r :: others)
    (hdecode : decode r.offer = .incomplete) : s.fetchRequest = .settled s := by
  simp only [State.fetchRequest, h, hdecode]

theorem step_of_fetchRequest_settled {s t : State} (hr : s.resetReq = false) (hb : s.busy = false)
    (h : s.fetchRequest = .settled t) : step s = .next t := by
  simp [step, State.fetch, hr, hb, h]

/-! ### The rows of R290 -/

/-- A row of R290's table: the counts of `WB`, `SB`, `CB` and `DLY`, and the least duration in microseconds. -/
def costs (ops : List MicroOp) : Nat × Nat × Nat × Nat × Nat :=
  (wbCount ops, sbCount ops, cbCount ops, dlyCount ops, leastWait ops)

theorem costs_append (as bs : List MicroOp) : costs (as ++ bs) = costs as + costs bs := by
  simp only [costs, wbCount, sbCount, cbCount, dlyCount, List.countP_append, leastWait_append, Prod.mk_add_mk]

theorem costs_sendByte (c : Setup) (mode : Mode) (b : Byte) :
    costs (sendByte c mode b) = (2, 2, 2, 4, 4 * c.timing.tEn) := by
  rw [costs, leastWait_sendByte]; rfl

theorem costs_sendSettled (c : Setup) (b : Byte) :
    costs (sendSettled c b) = (2, 2, 2, 5, 4 * c.timing.tEn + c.timing.tClear) := by
  rw [costs, leastWait_sendSettled]; rfl

theorem costs_sendThenClear (c : Setup) (b : Byte) :
    costs (sendThenClear c b) = (4, 4, 4, 9, 8 * c.timing.tEn + c.timing.tClear) := by
  rw [costs, leastWait_sendThenClear]; rfl

theorem costs_sendData (c : Setup) (bytes : List Byte) : costs (sendData c bytes) =
    (2 * bytes.length, 2 * bytes.length, 2 * bytes.length, 4 * bytes.length, 4 * c.timing.tEn * bytes.length) := by
  induction bytes with
  | nil => rfl
  | cons b bs ih =>
    rw [sendData, List.flatMap_cons, costs_append, costs_sendByte, ← sendData, ih, List.length_cons]
    simp only [Prod.mk_add_mk, Nat.mul_add, Nat.mul_one, Nat.add_comm]

/-- The table's bytes between the CGRAM address and the address reset (R187). -/
theorem costs_expandLoadglyphs (c : Setup) (t : List Byte) : costs (expandLoadglyphs c t) =
    (2 * t.length + 4, 2 * t.length + 4, 2 * t.length + 4, 4 * t.length + 8, 4 * c.timing.tEn * (t.length + 2)) := by
  rw [expandLoadglyphs, addrReset, costs_append, costs_append, costs_sendByte, costs_sendByte, costs_sendData]
  simp only [Prod.mk_add_mk, Prod.mk.injEq]
  refine ⟨?_, ?_, ?_, ?_, ?_⟩ <;> ring

theorem costs_expandInit (c : Setup) (o : InitOptions) : costs (expandInit c o) =
    (19, 18, 18, 38, c.timing.tPowerOn + 4 * c.timing.tEn + c.timing.tInit1 + c.timing.tInit2 +
      c.timing.tInit3 + c.timing.tInit4 + 7 * 4 * c.timing.tEn + c.timing.tClear) := by
  obtain ⟨-, -, hwb, hsb, hcb, hdly, -⟩ := initCounts c o
  rw [costs, hwb, hsb, hcb, hdly, leastWait_expandInit]

end Sys2Proof.Machine

open Sys2Proof Sys2Proof.Machine

/-- Settles O50: each list is made of bytes, settles and INIT's parts, whose costs add up. -/
theorem leastDurations : Obligations.LeastDurations := by
  intro c p k hc row
  have hEn : c.timing.tEn = 5000 := by rw [hc]; rfl
  have hClear : c.timing.tClear = 1600 := by rw [hc]; rfl
  have hbyte (b : Byte) (m : Mode) : row (sendByte c m b) = (2, 2, 2, 4, 20000) :=
    (costs_sendByte c m b).trans (by rw [hEn])
  have hsettled (b : Byte) : row (sendSettled c b) = (2, 2, 2, 5, 21600) :=
    (costs_sendSettled c b).trans (by rw [hEn, hClear])
  have hmode (b : Byte) : row (sendThenClear c b) = (4, 4, 4, 9, 41600) :=
    (costs_sendThenClear c b).trans (by rw [hEn, hClear])
  refine ⟨hbyte, fun o => ?_, hsettled _, hsettled _, fun _ _ => hbyte _ _, fun _ _ => hmode _,
    fun _ _ _ => hmode _, fun _ _ => hmode _, fun t => ?_, fun t => ?_, fun i s st hb hr => ?_⟩
  · exact (costs_expandInit c o).trans (by simp only [hc, Config.timing, Nat.add_assoc, Nat.reduceMul, Nat.reduceAdd])
  · exact (costs_expandLoadglyphs c t).trans (by rw [hEn])
  · exact (costs_sendData c t).trans (by rw [hEn])
  · obtain ⟨t, ht, rfl⟩ := exec_refused hb hr
    exact ⟨_, ht, rfl, rfl⟩

/-- Settles O36: there is no request, or the oldest one is not all there and is not taken. -/
theorem idleWaits : Obligations.IdleWaits := by
  rintro s hr hb (hnone | ⟨r, others, hpending, hdecode⟩)
  · exact step_of_fetchRequest_settled hr hb (State.fetchRequest_none hnone)
  · exact step_of_fetchRequest_settled hr hb (State.fetchRequest_incomplete hpending hdecode)

/-- Settles O40: reset comes first in a step, and each element is the one `State.applyReset` gives the field. -/
theorem resetAtAnyTime : Obligations.ResetAtAnyTime := fun s hr hs =>
  ⟨s.applyReset, step_reset hr hs, rfl, rfl, rfl, rfl, rfl, rfl, rfl, rfl, rfl, rfl, rfl, rfl, rfl, rfl, rfl, rfl, rfl,
    rfl, rfl, rfl⟩

end
